-- ==== Sys2Proof/Word.lean ====
section
/-! DEFINITION. The word types of the TH-880: link and slot bytes, local clock values and statistics counters. -/

namespace Sys2Proof

/-- One byte: a link byte, a mark byte or a slot value of a fixture line. -/
abbrev Byte := BitVec 8

/-- A value of the local clock (R115): milliseconds from reset, 32 bits, wrapping. -/
abbrev LocalTime := BitVec 32

/-- A statistics counter (R171, R184): 32 bits, wrapping. -/
abbrev Counter := BitVec 32

end Sys2Proof
end

