-- ==== Sys2Proof/Config.lean ====
section
/-! DEFINITION. The capacities and limits of Table 3 and the fixed values of the TH-880. Where
the spec leaves an order open that no operand gives, the choice is an opaque value here. -/

namespace Sys2Proof.Config

/-- Show time ends at 86,399,999 ms of the day (R118). -/
abbrev dayEnd : Nat := 86399999

/-- Part pool slots (R98). -/
abbrev poolSize : Nat := 1024

/-- Fades and delays are used as at most 600,000 ms (R25). -/
abbrev maxFade : Nat := 600000

/-- Normal lane room (R178). -/
abbrev normalRoom : Nat := 8

/-- Urgent lane room (R178). -/
abbrev urgentRoom : Nat := 4

/-- Notice queue room (R182). -/
abbrev noticeRoom : Nat := 32

/-- Notices returned by one poll (R183). -/
abbrev pollSize : Nat := 8

/-- Reply queue places (R177). -/
abbrev replyRoom : Nat := 16

/-- Track queue room (R141). -/
abbrev trackRoom : Nat := 32

/-- Timeline room (R136). -/
abbrev timelineRoom : Nat := 256

/-- A mark being collected is abandoned when more than this many microseconds pass without a byte (R121). -/
abbrev markGapUs : Nat := 2000

/-- Mark tolerance in ms (R122). -/
abbrev markTolerance : Int := 3

/-- Bad or missing marks that end the lock (R128). -/
abbrev badLimit : Nat := 3

/-- Greatest unescaped frame content (R173). -/
abbrev maxFrame : Nat := 245

/-- Greatest payload of a frame (R173). -/
abbrev maxPayload : Nat := 240

/-- Angles of requests, ranges and windows lie within two turns either side of zero (section 3.2). -/
abbrev angleLimit : Int := 131072

/-- Stage limit of x and y in mm (section 3.3). -/
abbrev stageXY : Int := 200000

/-- Stage floor limit of z in mm (section 3.3). -/
abbrev stageZLow : Int := -20000

/-- Stage ceiling limit of z in mm (section 3.3). -/
abbrev stageZHigh : Int := 80000

/-- Magic word of the show image header (R192). -/
abbrev imageMagic : BitVec 32 := 0x4E0A5C31#32

/-- Greatest body length of a valid show image (R192). -/
abbrev maxBody : Nat := 262144

/-- R181 gives no order between the unicasts of the two lanes that a RESTART answers BUSY: true where, at a RESTART at this
microsecond and with this many requests still waiting, the head of the normal lane is answered before the head of the urgent
lane. A free value (log entry 26). -/
opaque normalLaneFirst : Nat → Nat → Bool

end Sys2Proof.Config
end

