-- ==== Sys2Proof/Syntax.lean ====
section
/-! DEFINITION. The commands of the TH-880: one constructor per row of spec/opcode_table.json. A row that is a request of
the show link carries the request as it was handed over (origin, tag, payload); an event carries what comes with it from
outside. -/

namespace Sys2Proof

/-- A request of the show link without its kind byte (R176): unicast or broadcast, tag, payload. -/
structure Request where
  broadcast : Bool
  tag : Byte
  payload : List Byte
  deriving DecidableEq, Repr

/-- What the ADC reads on the four stick inputs, 0..4095 each (section 8.3). -/
structure Readings where
  x0 : BitVec 12
  y0 : BitVec 12
  x1 : BitVec 12
  y1 : BitVec 12
  deriving DecidableEq, Repr

/-- The commands, in the order of the table. -/
inductive Instr where
  /-- Power-on with the four address straps as they stand (R192, R195). -/
  | powerOn (straps : BitVec 4)
  /-- The RESET pin with the four address straps as they stand (R192, R195). -/
  | resetPin (straps : BitVec 4)
  /-- Bytes arrive on the host pair, each with a good stop bit; each delimiter among them ends a frame (R173). -/
  | frameReceived (bytes : List Byte)
  /-- The transmitter finishes the reply it is sending (R177). -/
  | replySent
  /-- A request whose kind byte names no request (R180). -/
  | unknownKind (kind : Byte) (q : Request)
  | unitQuery (q : Request)
  | noticePoll (q : Request)
  | stats (q : Request)
  | save (q : Request)
  /-- The save in progress ends; `matched` says whether the read-back matched what was written (R193). -/
  | saveCompletion (matched : Bool)
  | restart (q : Request)
  | clearShow (q : Request)
  | profileLoad (q : Request)
  | profileRemove (q : Request)
  | profileRead (q : Request)
  | fixtureDefine (q : Request)
  | fixtureRemove (q : Request)
  | fixtureSlots (q : Request)
  | fixtureRead (q : Request)
  | groupSet (q : Request)
  | groupRead (q : Request)
  | zoneSet (q : Request)
  | zoneRead (q : Request)
  | aim (q : Request)
  | tint (q : Request)
  | level (q : Request)
  | fixtureQuery (q : Request)
  | park (q : Request)
  | stop (q : Request)
  | douse (q : Request)
  | release (q : Request)
  | go (q : Request)
  | cueOpen (q : Request)
  | cuePart (q : Request)
  | cueDelete (q : Request)
  | cueRead (q : Request)
  | showTime (q : Request)
  | clockSet (q : Request)
  | clockQuery (q : Request)
  | timelineAdd (q : Request)
  | timelineRemove (q : Request)
  | timelineRead (q : Request)
  | trackBind (q : Request)
  | trackPoints (q : Request)
  | trackRelease (q : Request)
  | trackQuery (q : Request)
  | stickSet (q : Request)
  /-- STICK-CENTRE with what the ADC reads at its conversion (R155). -/
  | stickCentre (q : Request) (adc : Readings)
  | stickZero (q : Request)
  /-- STICK-SAMPLE with what the ADC reads at its conversion (R156). -/
  | stickSample (q : Request) (adc : Readings)
  | stickQuery (q : Request)
  | lineSet (q : Request)
  | linePin (q : Request)
  | lineStatic (q : Request)
  | lineQuery (q : Request)
  | lineImage (q : Request)
  /-- The step timer expires (R117); `adc` is what the stick inputs read at this expiry. `sampling` says when the stick
  sampling of the expiry takes place, which R117 and R152 leave open: 0 before the work of the SCU, n + 1 after it and
  before the evaluation of every fixture numbered n or more; from 129 on, after the last evaluation. -/
  | stepExpiry (adc : Readings) (sampling : Nat)
  /-- The running pass evaluates its next fixture (R36). -/
  | fixtureEvaluation
  /-- The running pass completes (R35, R164). -/
  | passCompletion
  /-- Bytes arrive on the sync line, each with a good stop bit (R121). -/
  | markReceived (bytes : List Byte)
  /-- A bad stop bit, or more than 2 ms without a byte, on the sync line (R121). -/
  | markAbandoned
  /-- The confirm deadline passes (R124). -/
  | confirmDeadline
  /-- The watch deadline passes (R126). -/
  | watchDeadline
  /-- A line starts a frame (R166). -/
  | frameStart (line : Fin 8)
  /-- The last slot of the line's frame is sent (R171). -/
  | frameSent (line : Fin 8)
  /-- The line's fault input becomes asserted (R169). -/
  | faultInputAsserted (line : Fin 8)
  /-- The line's fault input becomes released (R169). -/
  | faultInputReleased (line : Fin 8)
  /-- A byte with a bad stop bit arrives on the host pair (R173). -/
  | frameAbandoned
  deriving DecidableEq, Repr

end Sys2Proof
end

