-- ==== Sys2Proof/Decode.lean ====
section
/-! DEFINITION. The kind bytes of the show link (Table 33), and the reading of a table word. -/

namespace Sys2Proof

/-- The command that executes a request with kind byte `kind` (Table 33); `adc` is what the stick inputs read, which only
STICK-CENTRE and STICK-SAMPLE take. -/
def commandOf (kind : Byte) (q : Request) (adc : Readings) : Instr :=
  match kind.toNat with
  | 0x01 => .unitQuery q
  | 0x02 => .noticePoll q
  | 0x03 => .stats q
  | 0x04 => .save q
  | 0x05 => .restart q
  | 0x06 => .clearShow q
  | 0x10 => .profileLoad q
  | 0x11 => .profileRemove q
  | 0x12 => .profileRead q
  | 0x13 => .fixtureDefine q
  | 0x14 => .fixtureRemove q
  | 0x15 => .fixtureSlots q
  | 0x16 => .fixtureRead q
  | 0x17 => .groupSet q
  | 0x18 => .groupRead q
  | 0x19 => .zoneSet q
  | 0x1A => .zoneRead q
  | 0x20 => .aim q
  | 0x21 => .tint q
  | 0x22 => .level q
  | 0x23 => .fixtureQuery q
  | 0x28 => .park q
  | 0x29 => .stop q
  | 0x2A => .douse q
  | 0x2B => .release q
  | 0x2C => .go q
  | 0x30 => .cueOpen q
  | 0x31 => .cuePart q
  | 0x32 => .cueDelete q
  | 0x33 => .cueRead q
  | 0x38 => .showTime q
  | 0x39 => .clockSet q
  | 0x3A => .clockQuery q
  | 0x3B => .timelineAdd q
  | 0x3C => .timelineRemove q
  | 0x3D => .timelineRead q
  | 0x40 => .trackBind q
  | 0x41 => .trackPoints q
  | 0x42 => .trackRelease q
  | 0x43 => .trackQuery q
  | 0x48 => .stickSet q
  | 0x49 => .stickCentre q adc
  | 0x4A => .stickZero q
  | 0x4B => .stickSample q adc
  | 0x4C => .stickQuery q
  | 0x50 => .lineSet q
  | 0x51 => .linePin q
  | 0x52 => .lineStatic q
  | 0x53 => .lineQuery q
  | 0x54 => .lineImage q
  | _ => .unknownKind kind q

/-- The kind byte of a request command, none for an event (Table 33). -/
def Instr.kindByte : Instr → Option Byte
  | .powerOn _ => none
  | .resetPin _ => none
  | .frameReceived _ => none
  | .replySent => none
  | .unknownKind kind _ => some kind
  | .unitQuery _ => some 0x01
  | .noticePoll _ => some 0x02
  | .stats _ => some 0x03
  | .save _ => some 0x04
  | .saveCompletion _ => none
  | .restart _ => some 0x05
  | .clearShow _ => some 0x06
  | .profileLoad _ => some 0x10
  | .profileRemove _ => some 0x11
  | .profileRead _ => some 0x12
  | .fixtureDefine _ => some 0x13
  | .fixtureRemove _ => some 0x14
  | .fixtureSlots _ => some 0x15
  | .fixtureRead _ => some 0x16
  | .groupSet _ => some 0x17
  | .groupRead _ => some 0x18
  | .zoneSet _ => some 0x19
  | .zoneRead _ => some 0x1A
  | .aim _ => some 0x20
  | .tint _ => some 0x21
  | .level _ => some 0x22
  | .fixtureQuery _ => some 0x23
  | .park _ => some 0x28
  | .stop _ => some 0x29
  | .douse _ => some 0x2A
  | .release _ => some 0x2B
  | .go _ => some 0x2C
  | .cueOpen _ => some 0x30
  | .cuePart _ => some 0x31
  | .cueDelete _ => some 0x32
  | .cueRead _ => some 0x33
  | .showTime _ => some 0x38
  | .clockSet _ => some 0x39
  | .clockQuery _ => some 0x3A
  | .timelineAdd _ => some 0x3B
  | .timelineRemove _ => some 0x3C
  | .timelineRead _ => some 0x3D
  | .trackBind _ => some 0x40
  | .trackPoints _ => some 0x41
  | .trackRelease _ => some 0x42
  | .trackQuery _ => some 0x43
  | .stickSet _ => some 0x48
  | .stickCentre _ _ => some 0x49
  | .stickZero _ => some 0x4A
  | .stickSample _ _ => some 0x4B
  | .stickQuery _ => some 0x4C
  | .lineSet _ => some 0x50
  | .linePin _ => some 0x51
  | .lineStatic _ => some 0x52
  | .lineQuery _ => some 0x53
  | .lineImage _ => some 0x54
  | .stepExpiry _ _ => none
  | .fixtureEvaluation => none
  | .passCompletion => none
  | .markReceived _ => none
  | .markAbandoned => none
  | .confirmDeadline => none
  | .watchDeadline => none
  | .frameStart _ => none
  | .frameSent _ => none
  | .faultInputAsserted _ => none
  | .faultInputReleased _ => none
  | .frameAbandoned => none

/-- The request a request command carries, none for an event. -/
def Instr.request : Instr → Option Request
  | .powerOn _ => none
  | .resetPin _ => none
  | .frameReceived _ => none
  | .replySent => none
  | .unknownKind _ q => some q
  | .unitQuery q => some q
  | .noticePoll q => some q
  | .stats q => some q
  | .save q => some q
  | .saveCompletion _ => none
  | .restart q => some q
  | .clearShow q => some q
  | .profileLoad q => some q
  | .profileRemove q => some q
  | .profileRead q => some q
  | .fixtureDefine q => some q
  | .fixtureRemove q => some q
  | .fixtureSlots q => some q
  | .fixtureRead q => some q
  | .groupSet q => some q
  | .groupRead q => some q
  | .zoneSet q => some q
  | .zoneRead q => some q
  | .aim q => some q
  | .tint q => some q
  | .level q => some q
  | .fixtureQuery q => some q
  | .park q => some q
  | .stop q => some q
  | .douse q => some q
  | .release q => some q
  | .go q => some q
  | .cueOpen q => some q
  | .cuePart q => some q
  | .cueDelete q => some q
  | .cueRead q => some q
  | .showTime q => some q
  | .clockSet q => some q
  | .clockQuery q => some q
  | .timelineAdd q => some q
  | .timelineRemove q => some q
  | .timelineRead q => some q
  | .trackBind q => some q
  | .trackPoints q => some q
  | .trackRelease q => some q
  | .trackQuery q => some q
  | .stickSet q => some q
  | .stickCentre q _ => some q
  | .stickZero q => some q
  | .stickSample q _ => some q
  | .stickQuery q => some q
  | .lineSet q => some q
  | .linePin q => some q
  | .lineStatic q => some q
  | .lineQuery q => some q
  | .lineImage q => some q
  | .stepExpiry _ _ => none
  | .fixtureEvaluation => none
  | .passCompletion => none
  | .markReceived _ => none
  | .markAbandoned => none
  | .confirmDeadline => none
  | .watchDeadline => none
  | .frameStart _ => none
  | .frameSent _ => none
  | .faultInputAsserted _ => none
  | .faultInputReleased _ => none
  | .frameAbandoned => none

/-- The kind byte names a request (Table 33). -/
def isKnownKind (kind : Byte) : Bool :=
  let k := kind.toNat
  decide (1 ≤ k ∧ k ≤ 6) || decide (0x10 ≤ k ∧ k ≤ 0x1A) || decide (0x20 ≤ k ∧ k ≤ 0x23) || decide (0x28 ≤ k ∧ k ≤ 0x2C) ||
    decide (0x30 ≤ k ∧ k ≤ 0x33) || decide (0x38 ≤ k ∧ k ≤ 0x3D) || decide (0x40 ≤ k ∧ k ≤ 0x43) ||
    decide (0x48 ≤ k ∧ k ≤ 0x4C) || decide (0x50 ≤ k ∧ k ≤ 0x54)

/-- The command a table word spells. No row of spec/opcode_table.json gives bits, so no word spells one. -/
def decodeTableWord (_nbits _w : Nat) : Option Instr := none

end Sys2Proof
end

