-- ==== Sys2Proof/Machine/State.lean ====
section
/-! DEFINITION. The state of the TH-880 by its functional blocks (Table 1), the two reasons a command could stop, and the
state after reset. All of it is plain data. -/

namespace Sys2Proof.Machine

/-- Fault reasons. There is none: no rule of the spec stops the part, and a request that cannot be done is answered with a
status. The type is empty, so `exec` never faults. Safe. -/
inductive Fault where
  deriving DecidableEq, Repr

/-- Refusal reasons. -/
inductive Refusal where
  /-- Raised by `exec`'s arm of a command that has no meaning yet, with its mnemonic; no arm raises it now. Safe. -/
  | notModelled (mnemonic : String)
  deriving DecidableEq, Repr

/-! ### Values shared by the blocks -/

/-- A stage point in mm (section 3.3). -/
structure Point where
  x : Int
  y : Int
  z : Int
  deriving DecidableEq, Repr

/-- A pan and tilt pair in angle units, or a pair of velocities in au per step (section 3.2). -/
structure Angles where
  pan : Int
  tilt : Int
  deriving DecidableEq, Repr

/-- A closed range [lo, hi] of one axis. -/
structure Window where
  lo : Int
  hi : Int
  deriving DecidableEq, Repr

/-- A moment on one of the two time bases (section 3.4): show time, or the local clock. -/
inductive Moment where
  | onShow (ms : Nat)
  | onLocal (t : LocalTime)
  deriving DecidableEq, Repr

/-! ### FXE: profiles, fixtures, zones -/

inductive Orientation where
  | hang
  | stand
  deriving DecidableEq, Repr

inductive GamutMode where
  | clip
  | scale
  deriving DecidableEq, Repr

inductive Curve where
  | linear
  | square
  deriving DecidableEq, Repr

/-- Red, green and blue amounts, signed where the colour matrix makes them so. -/
structure Rgb where
  r : Int
  g : Int
  b : Int
  deriving DecidableEq, Repr

/-- Table 7: a profile. -/
structure Profile where
  footprint : Nat
  panCoarse : Nat
  panFine : Option Nat
  tiltCoarse : Nat
  tiltFine : Option Nat
  redCoarse : Nat
  redFine : Option Nat
  greenCoarse : Nat
  greenFine : Option Nat
  blueCoarse : Nat
  blueFine : Option Nat
  whiteCoarse : Option Nat
  whiteFine : Option Nat
  speed : Option Nat
  speedValue : Byte
  panRange : Window
  tiltRange : Window
  panVmax : Nat
  tiltVmax : Nat
  panAmax : Nat
  tiltAmax : Nat
  matrixRed : Rgb
  matrixGreen : Rgb
  matrixBlue : Rgb
  /-- The white vector, held only with a white emitter (R4). -/
  whiteVector : Option Rgb
  defaultWmix : Nat
  gamut : GamutMode
  curve : Curve
  defaults : List Byte
  deriving DecidableEq, Repr

/-- Table 8: the configuration of a fixture, less its group set and static slot values. -/
structure FixtureConfig where
  line : Fin 8
  start : Nat
  profile : Fin 16
  mount : Point
  orientation : Orientation
  yaw : Int
  panWindow : Window
  tiltWindow : Window
  park : Angles
  parkLevel : Nat
  deriving DecidableEq, Repr

inductive Shape where
  | linear
  | ease
  deriving DecidableEq, Repr

/-- Table 10: the source of a transition. -/
inductive Source where
  | init
  | cue (c : Nat)
  | direct
  | track (k : Fin 4)
  deriving DecidableEq, Repr

/-- A colour value: r, g, b in 0..65535 and wmix in 0..256. -/
structure Colour where
  r : Nat
  g : Nat
  b : Nat
  wmix : Nat
  deriving DecidableEq, Repr

/-- A requested colour: its wmix may be marked absent (R31). -/
structure ColourTarget where
  r : Nat
  g : Nat
  b : Nat
  wmix : Option Nat
  deriving DecidableEq, Repr

/-- An aim as a stage point or as angles: the aim present value, and the aim a request or a cue part gives. -/
inductive Aim where
  | point (p : Point)
  | angles (a : Angles)
  deriving DecidableEq, Repr

/-- The from and to values of an aim transition (Table 10). -/
inductive AimValue where
  | point (p : Point)
  | angles (a : Angles)
  | track (k : Fin 4)
  deriving DecidableEq, Repr

/-- Table 10: an active transition. The time base is the base of its start time. -/
structure Transition (α : Type) where
  source : Source
  start : Moment
  fromValue : α
  toValue : α
  duration : Nat
  shape : Shape
  /-- Held complete (R26), used on the LOCAL base only. -/
  held : Bool
  /-- The complete bit of FIXTURE-QUERY (R47). -/
  complete : Bool
  deriving DecidableEq, Repr

inductive Space where
  | pointSpace
  | angleSpace
  deriving DecidableEq, Repr

/-- Table 10: an active aim transition with its space, reach mark and target point. -/
structure AimTransition where
  core : Transition AimValue
  space : Space
  reachMark : Bool
  target : Option Point
  deriving DecidableEq, Repr

/-- A pending transition (R33): its from value and start time are open until it is promoted. -/
structure Pending (α : Type) where
  source : Source
  due : Moment
  toValue : α
  duration : Nat
  shape : Shape
  deriving DecidableEq, Repr

/-- Table 9: the runtime record of a fixture. -/
structure Runtime where
  aim : AimTransition
  aimPending : Option (Pending Aim)
  aimPresent : Aim
  colour : Transition Colour
  colourPending : Option (Pending ColourTarget)
  colourPresent : Colour
  level : Transition Nat
  levelPending : Option (Pending Nat)
  levelPresent : Nat
  parked : Bool
  /-- STOPPED: clear, or set with the stop pan and stop tilt. -/
  stopped : Option Angles
  doused : Bool
  desired : Angles
  commanded : Angles
  velocity : Angles
  reach : Bool
  lag : Bool
  gamut : Bool
  clamped : Bool
  blanked : Bool
  deriving DecidableEq, Repr

/-- A defined fixture: configuration record, group set, static slot values and runtime record. The runtime record exists
with the fixture and not without it (R24). -/
structure Fixture where
  config : FixtureConfig
  groups : BitVec 32
  statics : List Byte
  run : Runtime
  deriving DecidableEq, Repr

inductive ZoneMode where
  | clamp
  | blank
  deriving DecidableEq, Repr

/-- Table 15: a zone. -/
structure Zone where
  x : Window
  y : Window
  z : Window
  mode : ZoneMode
  enabled : Bool
  groups : BitVec 32
  deriving DecidableEq, Repr

/-- The empty zone values (R65). -/
def Zone.empty : Zone :=
  { x := ⟨0, 0⟩, y := ⟨0, 0⟩, z := ⟨0, 0⟩, mode := .clamp, enabled := false, groups := 0 }

/-- The stick sampling of an expiry that its pass has yet to meet (R152). -/
structure Sampling where
  adc : Readings
  stepLength : Nat
  before : Nat
  deriving DecidableEq, Repr

/-- The running evaluation pass (R35): its two pass times, the step period its limits are formed from (R49), the lowest
fixture number it has not reached, and the sampling it has yet to meet. -/
structure Pass where
  localTime : LocalTime
  showTime : Nat
  period : Nat
  nextFixture : Nat
  sampling : Option Sampling
  deriving DecidableEq, Repr

structure Fxe where
  profiles : Vector (Option Profile) 16
  fixtures : Vector (Option Fixture) 128
  zones : Vector Zone 16
  pass : Option Pass
  deriving DecidableEq, Repr

/-! ### SCU: clocks and the lock machine -/

/-- A valid timing mark with its arrival (R121). -/
structure Mark where
  time : Nat
  run : Bool
  arrival : LocalTime
  deriving DecidableEq, Repr

/-- A scheduled slip: SKIP or REPEAT, with the error e of its mark (R132). -/
structure Slip where
  skip : Bool
  error : Int
  deriving DecidableEq, Repr

/-- The lock machine with the records each state holds (section 7.4). -/
inductive Lock where
  | search
  | confirm (remembered : Mark) (deadline : LocalTime)
  | locked (reference : Mark) (bad : Nat) (watch : LocalTime) (candidate : Option Mark) (slip : Option Slip)
  | holdover
  deriving DecidableEq, Repr

/-- The mark receiver (R121): hunting, or collecting with the body bytes taken so far and the microsecond of the last byte. -/
inductive MarkReceiver where
  | hunting
  | collecting (body : List Byte) (lastUs : Nat)
  deriving DecidableEq, Repr

structure Scu where
  /-- Microseconds from power-on or the RESET pin. The local clock is its millisecond count modulo 2^32. -/
  timeUs : Nat
  period : Nat
  waiting : Option Nat
  nextExpiry : LocalTime
  showTime : Nat
  running : Bool
  markInterval : Nat
  jumpThreshold : Nat
  receiver : MarkReceiver
  lock : Lock
  deriving DecidableEq, Repr

/-! ### PBU: cues, pool, timeline -/

/-- Table 37: a cue part record as received (R189). -/
structure PartRecord where
  selKind : Byte
  selNumber : Byte
  attributes : Byte
  a : BitVec 32
  b : BitVec 32
  c : BitVec 32
  red : BitVec 16
  green : BitVec 16
  blue : BitVec 16
  wmix : BitVec 16
  level : BitVec 16
  fade : BitVec 32
  delay : BitVec 32
  shape : Byte
  deriving DecidableEq, Repr

inductive CueState where
  | empty
  | opened
  | ready
  deriving DecidableEq, Repr

/-- Table 20: a cue; the declared count is 0 while EMPTY. -/
structure Cue where
  state : CueState
  declared : Nat
  parts : List PartRecord
  deriving DecidableEq, Repr

/-- An EMPTY cue. -/
def Cue.blank : Cue := { state := .empty, declared := 0, parts := [] }

/-- The open-build record when it is not none (R99). -/
structure OpenBuild where
  cue : Fin 96
  declared : Nat
  received : Nat
  deriving DecidableEq, Repr

/-- A timeline entry (R136). -/
structure TimelineEntry where
  time : Nat
  cue : Fin 96
  deriving DecidableEq, Repr

structure Pbu where
  cues : Vector Cue 96
  poolFree : Nat
  openBuild : Option OpenBuild
  timeline : List TimelineEntry
  cursor : Nat
  deriving DecidableEq, Repr

/-! ### TKU and SKU -/

inductive TrackState where
  | unbound
  | waiting
  | running
  | starved
  | ended
  deriving DecidableEq, Repr

/-- An accepted track entry with its due time (R145). -/
structure TrackEntry where
  point : Point
  due : LocalTime
  last : Bool
  deriving DecidableEq, Repr

/-- Table 23: a track. -/
structure Track where
  state : TrackState
  joins : List (Fin 128 × Option Point)
  fromPoint : Option Point
  fromTime : Option LocalTime
  queue : List TrackEntry
  updated : Option LocalTime
  deriving DecidableEq, Repr

/-- An UNBOUND track (R141). -/
def Track.unbound : Track :=
  { state := .unbound, joins := [], fromPoint := none, fromTime := none, queue := [], updated := none }

inductive SamplingMode where
  | continuous
  | single
  deriving DecidableEq, Repr

/-- Table 25: a stick. -/
structure Stick where
  group : Option (Fin 32)
  sampling : SamplingMode
  centreX : Nat
  centreY : Nat
  deadBand : Nat
  gain : Nat
  range : Nat
  offsetX : Int
  offsetY : Int
  faultX : Bool
  faultY : Bool
  rawX : Nat
  rawY : Nat
  deriving DecidableEq, Repr

/-- The default settings of a stick with offsets 0, faults clear and raw readings 2048 (R150). -/
def Stick.default : Stick :=
  { group := none, sampling := .continuous, centreX := 2048, centreY := 2048, deadBand := 0, gain := 1000, range := 0,
    offsetX := 0, offsetY := 0, faultX := false, faultY := false, rawX := 2048, rawY := 2048 }

structure Sku where
  sticks : Vector Stick 2
  /-- What the stick inputs present to the ADC now: the readings the last command that carried readings gave. -/
  inputs : Readings
  deriving DecidableEq, Repr

/-! ### LNU: lines -/

inductive LineMode where
  | off
  | frame
  | pin
  | fault
  deriving DecidableEq, Repr

/-- The armed mode: a mode that can be requested (R158). -/
inductive ArmedMode where
  | off
  | frame
  | pin
  deriving DecidableEq, Repr

inductive CheckSlot where
  | none
  | xor
  | sum
  deriving DecidableEq, Repr

/-- A frame being sent with what it latched at its start (R167). -/
structure Frame where
  length : Nat
  startCode : Byte
  check : CheckSlot
  includeStart : Bool
  values : List Byte
  startUs : Nat
  deriving DecidableEq, Repr

/-- Table 26: a line, with its fault input pin. Slot s stands at index s - 1 of the static values and the images. -/
structure Line where
  mode : LineMode
  armed : ArmedMode
  length : Nat
  startCode : Byte
  check : CheckSlot
  includeStart : Bool
  minInterval : Nat
  pinHigh : Bool
  statics : Vector Byte 512
  next : Vector Byte 512
  latest : Vector Byte 512
  frame : Option Frame
  lastStart : Option Nat
  framesSent : Counter
  faults : Counter
  faultInput : Bool
  deriving DecidableEq, Repr

/-- A line with the defaults of R158, both images at its static values, no frame and counters 0. -/
def Line.default : Line :=
  { mode := .off, armed := .off, length := 512, startCode := 0, check := .none, includeStart := false, minInterval := 23,
    pinHigh := false, statics := Vector.replicate 512 0, next := Vector.replicate 512 0, latest := Vector.replicate 512 0,
    frame := none, lastStart := none, framesSent := 0, faults := 0, faultInput := false }

/-! ### SLI and RQD: link, lanes, notices, statistics -/

/-- The SLI receiver (R173): HUNT, or COLLECT with the buffer, whether an escape byte stands before the next byte, and
whether the frame is marked overlong (R174). -/
inductive Receiver where
  | hunt
  | collect (buffer : List Byte) (escaped : Bool) (overlong : Bool)
  deriving DecidableEq, Repr

/-- A built reply (R177); its payload begins with the status byte. -/
structure Reply where
  kind : Byte
  tag : Byte
  payload : List Byte
  deriving DecidableEq, Repr

structure Sli where
  unitAddress : Byte
  receiver : Receiver
  /-- Built replies not yet sent in full, in the order they were built; the transmitter sends the head. -/
  replies : List Reply
  /-- The time in microseconds at which the head reply's opening delimiter began. -/
  sendingSince : Nat
  deriving DecidableEq, Repr

/-- A request in a lane or in progress, with its kind byte. -/
structure LinkRequest where
  kind : Byte
  request : Request
  deriving DecidableEq, Repr

inductive LockName where
  | search
  | confirm
  | locked
  | holdover
  deriving DecidableEq, Repr

inductive FlagName where
  | reach
  | blanked
  deriving DecidableEq, Repr

inductive Axis where
  | x
  | y
  deriving DecidableEq, Repr

/-- Table 30: notices with their detail. -/
inductive Notice where
  | lock (state : LockName)
  | run (running : Bool)
  | slip (skip : Bool) (error : Int)
  | jump (old new : Nat)
  | track (k : Fin 4) (state : TrackState)
  | lineFault (line : Fin 8)
  | stickFault (stick : Fin 2) (axis : Axis) (set : Bool)
  | fixtureFlag (fixture : Fin 128) (flag : FlagName)
  | missingCue (cue : Fin 96)
  | saveDone
  | saveFailed
  | imageInvalid
  | broadcastDropped (kind tag : Byte)
  deriving DecidableEq, Repr

/-- A notice with the local time at which it was raised (R182). -/
structure NoticeRecord where
  time : LocalTime
  notice : Notice
  deriving DecidableEq, Repr

/-- Table 31, less the line counters, which the lines hold. -/
structure Stats where
  framesAccepted : Counter
  crcErrors : Counter
  shortFrames : Counter
  overlongFrames : Counter
  refusedBusy : Counter
  broadcastsDropped : Counter
  validMarks : Counter
  badMarks : Counter
  skips : Counter
  repeats : Counter
  jumps : Counter
  trackUnderruns : Counter
  lostNotices : Counter
  deriving DecidableEq, Repr

/-- Every counter 0. -/
def Stats.zero : Stats :=
  { framesAccepted := 0, crcErrors := 0, shortFrames := 0, overlongFrames := 0, refusedBusy := 0, broadcastsDropped := 0,
    validMarks := 0, badMarks := 0, skips := 0, repeats := 0, jumps := 0, trackUnderruns := 0, lostNotices := 0 }

structure Rqd where
  normal : List LinkRequest
  urgent : List LinkRequest
  inProgress : Option LinkRequest
  notices : List NoticeRecord
  lost : Nat
  stats : Stats
  deriving DecidableEq, Repr

/-! ### IMS: show image -/

structure Ims where
  /-- Image state: none is idle; SAVING holds the image bytes being written (R193). -/
  saving : Option (List Byte)
  /-- Last load: whether it found a valid image (R192). -/
  lastLoadValid : Bool
  /-- The image area of the serial flash: header, body and check, or anything else. -/
  flash : List Byte
  deriving DecidableEq, Repr

/-! ### The state -/

/-- The state of the TH-880 by blocks, and the queue of commands that wait. -/
structure State where
  sli : Sli
  rqd : Rqd
  fxe : Fxe
  scu : Scu
  pbu : Pbu
  tku : Vector Track 4
  sku : Sku
  lnu : Vector Line 8
  ims : Ims
  pending : List Instr
  deriving DecidableEq, Repr

/-- The state right after power-on with the straps at 0 and no valid image in the flash (R192; log entry 5). -/
def State.reset : State :=
  { sli := { unitAddress := 1, receiver := .hunt, replies := [], sendingSince := 0 }
    rqd := { normal := [], urgent := [], inProgress := none, notices := [{ time := 0, notice := .imageInvalid }], lost := 0,
             stats := Stats.zero }
    fxe := { profiles := Vector.replicate 16 none, fixtures := Vector.replicate 128 none,
             zones := Vector.replicate 16 Zone.empty, pass := none }
    scu := { timeUs := 0, period := 4, waiting := none, nextExpiry := 4, showTime := 0, running := false, markInterval := 40,
             jumpThreshold := 250, receiver := .hunting, lock := .search }
    pbu := { cues := Vector.replicate 96 Cue.blank, poolFree := Config.poolSize, openBuild := none, timeline := [],
             cursor := 0 }
    tku := Vector.replicate 4 Track.unbound
    sku := { sticks := Vector.replicate 2 Stick.default, inputs := { x0 := 2048, y0 := 2048, x1 := 2048, y1 := 2048 } }
    lnu := Vector.replicate 8 Line.default
    ims := { saving := none, lastLoadValid := false, flash := [] }
    pending := [] }

end Sys2Proof.Machine
end

