-- ==== Sys2Proof/Machine/Operands.lean ====
section
/-! DEFINITION. Reading and writing of message fields (R186), the named roundings (section 3.7), and the records that
travel in messages (Tables 33, 37, 38). -/

namespace Sys2Proof.Machine

/-! ### Rounding and the integer square root (section 3.7) -/

/-- half-up of the exact quotient n / d, for d > 0. -/
def halfUp (n d : Int) : Int := (2 * n + d) / (2 * d)

/-- half-away of the exact quotient n / d, for d > 0. -/
def halfAway (n d : Int) : Int :=
  if 0 ≤ n then (2 * n + d) / (2 * d) else -((2 * (-n) + d) / (2 * d))

/-- The greatest r below 2^bits with (base + r)² ≤ n, added to base, one bit at a time. -/
def isqrtBits (n : Nat) : Nat → Nat → Nat
  | 0, base => base
  | bits + 1, base =>
    let trial := base + 2 ^ bits
    isqrtBits n bits (if trial * trial ≤ n then trial else base)

/-- The floor square root (section 3.7). -/
def isqrt (n : Nat) : Nat := isqrtBits n (Nat.log2 n / 2 + 1) 0

/-- v clamped into lo..hi. -/
def clampTo (lo hi v : Int) : Int := if v < lo then lo else if hi < v then hi else v

/-- Sign of an integer as -1, 0 or 1. -/
def signOf (v : Int) : Int := if v < 0 then -1 else if v = 0 then 0 else 1

/-! ### Reading fields, most significant byte first (R186) -/

/-- The byte at offset i of a payload as a number. -/
def u8 (p : List Byte) (i : Nat) : Nat := (p.getD i 0).toNat

/-- The unsigned 2-byte field at offset i. -/
def u16 (p : List Byte) (i : Nat) : Nat := u8 p i * 256 + u8 p (i + 1)

/-- The unsigned 4-byte field at offset i. -/
def u32 (p : List Byte) (i : Nat) : Nat := u16 p i * 65536 + u16 p (i + 2)

/-- The signed 2-byte field at offset i. -/
def i16 (p : List Byte) (i : Nat) : Int := if u16 p i < 32768 then u16 p i else (u16 p i : Int) - 65536

/-- The signed 4-byte field at offset i. -/
def i32 (p : List Byte) (i : Nat) : Int :=
  if u32 p i < 2147483648 then u32 p i else (u32 p i : Int) - 4294967296

/-- A map of n bytes at offset i, bit 0 of the first byte first (fixture member maps and group sets). -/
def mapField (p : List Byte) (i : Nat) : Nat → Nat
  | 0 => 0
  | n + 1 => u8 p i + 256 * mapField p (i + 1) n

/-- An index field that may be none, 0xFF. -/
def optIndex (n : Nat) : Option Nat := if n = 255 then none else some n

/-- The four-byte group set at offset i. -/
def groupField (p : List Byte) (i : Nat) : BitVec 32 := BitVec.ofNat 32 (mapField p i 4)

/-- The stage point whose three coordinates stand from offset i. -/
def pointField (p : List Byte) (i : Nat) : Point := { x := i32 p i, y := i32 p (i + 4), z := i32 p (i + 8) }

/-! ### Writing fields -/

/-- The low byte of a number. -/
def byteOf (n : Nat) : Byte := BitVec.ofNat 8 n

/-- A 2-byte field. -/
def be16 (n : Nat) : List Byte := [byteOf (n / 256), byteOf n]

/-- A 4-byte field. -/
def be32 (n : Nat) : List Byte := [byteOf (n / 16777216), byteOf (n / 65536), byteOf (n / 256), byteOf n]

/-- A signed 2-byte field in two's complement. -/
def be16i (v : Int) : List Byte := be16 (v % 65536).toNat

/-- A signed 4-byte field in two's complement. -/
def be32i (v : Int) : List Byte := be32 (v % 4294967296).toNat

/-- A boolean field. -/
def boolByte (b : Bool) : Byte := if b then 1 else 0

/-- An index field that may be none. -/
def optByte : Option Nat → Byte
  | none => 0xFF
  | some n => byteOf n

/-- A map of n bytes, bit 0 of the first byte first. -/
def mapBytes : Nat → Nat → List Byte
  | 0, _ => []
  | n + 1, m => byteOf m :: mapBytes n (m / 256)

/-- A group set field. -/
def groupBytes (g : BitVec 32) : List Byte := mapBytes 4 g.toNat

/-- Three coordinates. -/
def pointBytes (p : Point) : List Byte := be32i p.x ++ be32i p.y ++ be32i p.z

/-- A local clock value or a counter. -/
def wordBytes (t : BitVec 32) : List Byte := be32 t.toNat

/-! ### Codes (Table 32) -/

def shapeOf (code : Nat) : Shape := if code = 1 then .ease else .linear

def shapeCode : Shape → Byte
  | .linear => 0
  | .ease => 1

def orientationCode : Orientation → Byte
  | .hang => 0
  | .stand => 1

def gamutCode : GamutMode → Byte
  | .clip => 0
  | .scale => 1

def curveCode : Curve → Byte
  | .linear => 0
  | .square => 1

def zoneModeCode : ZoneMode → Byte
  | .clamp => 0
  | .blank => 1

def lockCode : LockName → Byte
  | .search => 0
  | .confirm => 1
  | .locked => 2
  | .holdover => 3

def armedCode : ArmedMode → Byte
  | .off => 0
  | .frame => 1
  | .pin => 2

def armedOf (code : Nat) : ArmedMode := if code = 1 then .frame else if code = 2 then .pin else .off

def lineModeCode : LineMode → Byte
  | .off => 0
  | .frame => 1
  | .pin => 2
  | .fault => 3

def checkCode : CheckSlot → Byte
  | .none => 0
  | .xor => 1
  | .sum => 2

def checkOf (code : Nat) : CheckSlot := if code = 1 then .xor else if code = 2 then .sum else .none

def cueStateCode : CueState → Byte
  | .empty => 0
  | .opened => 1
  | .ready => 2

def trackStateCode : TrackState → Byte
  | .unbound => 0
  | .waiting => 1
  | .running => 2
  | .starved => 3
  | .ended => 4

def samplingCode : SamplingMode → Byte
  | .continuous => 0
  | .single => 1

def sourceCode : Source → Byte
  | .init => 0
  | .cue _ => 1
  | .direct => 2
  | .track _ => 3

/-- The cue or track number of a source, 0 where it has none (R186). -/
def sourceNumber : Source → Byte
  | .init => 0
  | .cue c => byteOf c
  | .direct => 0
  | .track k => byteOf k.val

def baseCode : Moment → Byte
  | .onLocal _ => 0
  | .onShow _ => 1

/-- A moment as a 4-byte field. -/
def momentBytes : Moment → List Byte
  | .onLocal t => wordBytes t
  | .onShow t => be32 t

def spaceCode : Space → Byte
  | .pointSpace => 0
  | .angleSpace => 1

/-- An aim value field: kind, then a, b, c (section 11.1). -/
def aimBytes : Aim → List Byte
  | .point p => 1 :: pointBytes p
  | .angles a => 2 :: (be32i a.pan ++ be32i a.tilt ++ be32 0)

/-! ### Stage and angle ranges -/

/-- A point is on stage (section 3.3). -/
def Point.onStage (p : Point) : Bool :=
  decide (-Config.stageXY ≤ p.x) && decide (p.x ≤ Config.stageXY) && decide (-Config.stageXY ≤ p.y) &&
    decide (p.y ≤ Config.stageXY) && decide (Config.stageZLow ≤ p.z) && decide (p.z ≤ Config.stageZHigh)

/-- An angle lies within two turns either side of zero (section 3.2). -/
def angleOk (v : Int) : Bool := decide (-Config.angleLimit ≤ v) && decide (v ≤ Config.angleLimit)

/-! ### Statuses and answers (Table 34) -/

/-- The status codes of Table 29. -/
inductive Status where
  | ok
  | busy
  | unknownKind
  | badLength
  | badValue
  | noSuch
  | full
  | overlap
  | inUse
  | notOpen
  | notReady
  | saving
  deriving DecidableEq, Repr

def statusByte : Status → Byte
  | .ok => 0x00
  | .busy => 0x01
  | .unknownKind => 0x02
  | .badLength => 0x03
  | .badValue => 0x04
  | .noSuch => 0x05
  | .full => 0x06
  | .overlap => 0x07
  | .inUse => 0x08
  | .notOpen => 0x09
  | .notReady => 0x0A
  | .saving => 0x0B

/-- What a request is answered: a status and the data after it. -/
structure Answer where
  status : Status
  data : List Byte
  deriving DecidableEq, Repr

/-- OK with data. -/
def Answer.ok (data : List Byte) : Answer := { status := .ok, data := data }

/-- A refusal: the status byte alone (R177). -/
def Answer.refuse (st : Status) : Answer := { status := st, data := [] }

/-- The payload of a reply: status, then data (R188). -/
def Answer.payload (a : Answer) : List Byte := statusByte a.status :: a.data

/-- The status of the first failing check of an ordered list of checks, none when all hold (R3, R180). -/
def firstFailing : List (Bool × Status) → Option Status
  | [] => none
  | (holds, st) :: rest => if holds then firstFailing rest else some st

/-! ### Selectors (R186) -/

/-- The fixtures a part or a request names (section 5). -/
inductive Selector where
  | fixture (f : Nat)
  | group (g : Nat)
  | all
  deriving DecidableEq, Repr

/-- The selector whose kind code and number are given; none for an invalid kind code or an index outside its table. -/
def selectorOf (kind number : Nat) : Option Selector :=
  if kind = 0 then (if number < 128 then some (.fixture number) else none)
  else if kind = 1 then (if number < 32 then some (.group number) else none)
  else if kind = 2 then some .all
  else none

/-- The selector field at the start of a payload. -/
def selectorField (p : List Byte) : Option Selector := selectorOf (u8 p 0) (u8 p 1)

/-- The aim value field at offset i (section 11.1): none for an invalid kind code or a value out of range (R39). -/
def aimField (p : List Byte) (i : Nat) : Option Aim :=
  if u8 p i = 1 then
    (let pt := pointField p (i + 1); if pt.onStage then some (.point pt) else none)
  else if u8 p i = 2 then
    (let a : Angles := { pan := i32 p (i + 1), tilt := i32 p (i + 5) }
     if angleOk a.pan && angleOk a.tilt then some (.angles a) else none)
  else none

/-! ### Profiles (Table 33) -/

/-- The profile whose fields stand in `b` from its footprint on: the PROFILE-LOAD payload after its profile number. -/
def profileOf (b : List Byte) : Profile :=
  let f := u8 b 0
  { footprint := f
    panCoarse := u8 b 1, panFine := optIndex (u8 b 2), tiltCoarse := u8 b 3, tiltFine := optIndex (u8 b 4)
    redCoarse := u8 b 5, redFine := optIndex (u8 b 6), greenCoarse := u8 b 7, greenFine := optIndex (u8 b 8)
    blueCoarse := u8 b 9, blueFine := optIndex (u8 b 10)
    whiteCoarse := optIndex (u8 b 11), whiteFine := optIndex (u8 b 12), speed := optIndex (u8 b 13)
    speedValue := b.getD 14 0
    panRange := ⟨i32 b 15, i32 b 19⟩, tiltRange := ⟨i32 b 23, i32 b 27⟩
    panVmax := u32 b 31, tiltVmax := u32 b 35, panAmax := u32 b 39, tiltAmax := u32 b 43
    matrixRed := ⟨i16 b 47, i16 b 49, i16 b 51⟩, matrixGreen := ⟨i16 b 53, i16 b 55, i16 b 57⟩
    matrixBlue := ⟨i16 b 59, i16 b 61, i16 b 63⟩
    whiteVector := if u8 b 11 = 255 then none else some ⟨u16 b 65, u16 b 67, u16 b 69⟩
    defaultWmix := min (u16 b 71) 256
    gamut := if u8 b 73 = 1 then .scale else .clip
    curve := if u8 b 74 = 1 then .square else .linear
    defaults := (b.drop 75).take f }

/-- A profile as the bytes `profileOf` reads (the data of PROFILE-READ, R14): no white vector is sent as zeros. -/
def Profile.bytes (p : Profile) : List Byte :=
  [byteOf p.footprint, byteOf p.panCoarse, optByte p.panFine, byteOf p.tiltCoarse, optByte p.tiltFine, byteOf p.redCoarse,
    optByte p.redFine, byteOf p.greenCoarse, optByte p.greenFine, byteOf p.blueCoarse, optByte p.blueFine,
    optByte p.whiteCoarse, optByte p.whiteFine, optByte p.speed, p.speedValue] ++
  be32i p.panRange.lo ++ be32i p.panRange.hi ++ be32i p.tiltRange.lo ++ be32i p.tiltRange.hi ++
  be32 p.panVmax ++ be32 p.tiltVmax ++ be32 p.panAmax ++ be32 p.tiltAmax ++
  be16i p.matrixRed.r ++ be16i p.matrixRed.g ++ be16i p.matrixRed.b ++
  be16i p.matrixGreen.r ++ be16i p.matrixGreen.g ++ be16i p.matrixGreen.b ++
  be16i p.matrixBlue.r ++ be16i p.matrixBlue.g ++ be16i p.matrixBlue.b ++
  (match p.whiteVector with
    | some w => be16i w.r ++ be16i w.g ++ be16i w.b
    | none => [0, 0, 0, 0, 0, 0]) ++
  be16 p.defaultWmix ++ [gamutCode p.gamut, curveCode p.curve] ++ p.defaults

/-! ### Fixture records (Table 33) -/

/-- The fixture configuration whose fields stand in `b` from its line on: the FIXTURE-DEFINE payload after its number. -/
def configOf (b : List Byte) : FixtureConfig :=
  { line := Fin.ofNat 8 (u8 b 0), start := u16 b 1, profile := Fin.ofNat 16 (u8 b 3), mount := pointField b 4
    orientation := if u8 b 16 = 1 then .stand else .hang
    yaw := i32 b 17, panWindow := ⟨i32 b 21, i32 b 25⟩, tiltWindow := ⟨i32 b 29, i32 b 33⟩
    park := { pan := i32 b 37, tilt := i32 b 41 }, parkLevel := u16 b 45 }

/-- A fixture configuration as the 47 bytes `configOf` reads. -/
def FixtureConfig.bytes (c : FixtureConfig) : List Byte :=
  [byteOf c.line.val] ++ be16 c.start ++ [byteOf c.profile.val] ++ pointBytes c.mount ++ [orientationCode c.orientation] ++
  be32i c.yaw ++ be32i c.panWindow.lo ++ be32i c.panWindow.hi ++ be32i c.tiltWindow.lo ++ be32i c.tiltWindow.hi ++
  be32i c.park.pan ++ be32i c.park.tilt ++ be16 c.parkLevel

/-! ### Zones (Table 33) -/

/-- The zone whose fields stand in `b` from x1 on. -/
def zoneOf (b : List Byte) : Zone :=
  { x := ⟨i32 b 0, i32 b 4⟩, y := ⟨i32 b 8, i32 b 12⟩, z := ⟨i32 b 16, i32 b 20⟩
    mode := if u8 b 24 = 1 then .blank else .clamp
    enabled := u8 b 25 == 1, groups := groupField b 26 }

/-- A zone as the 30 bytes `zoneOf` reads. -/
def Zone.bytes (z : Zone) : List Byte :=
  be32i z.x.lo ++ be32i z.x.hi ++ be32i z.y.lo ++ be32i z.y.hi ++ be32i z.z.lo ++ be32i z.z.hi ++
  [zoneModeCode z.mode, boolByte z.enabled] ++ groupBytes z.groups

/-! ### Cue part records (Table 37, R189) -/

/-- The 34-byte part record at the start of `b`. -/
def partOf (b : List Byte) : PartRecord :=
  { selKind := b.getD 0 0, selNumber := b.getD 1 0, attributes := b.getD 2 0
    a := BitVec.ofNat 32 (u32 b 3), b := BitVec.ofNat 32 (u32 b 7), c := BitVec.ofNat 32 (u32 b 11)
    red := BitVec.ofNat 16 (u16 b 15), green := BitVec.ofNat 16 (u16 b 17), blue := BitVec.ofNat 16 (u16 b 19)
    wmix := BitVec.ofNat 16 (u16 b 21), level := BitVec.ofNat 16 (u16 b 23)
    fade := BitVec.ofNat 32 (u32 b 25), delay := BitVec.ofNat 32 (u32 b 29), shape := b.getD 33 0 }

/-- A part record as its 34 bytes. -/
def PartRecord.bytes (p : PartRecord) : List Byte :=
  [p.selKind, p.selNumber, p.attributes] ++ wordBytes p.a ++ wordBytes p.b ++ wordBytes p.c ++
  be16 p.red.toNat ++ be16 p.green.toNat ++ be16 p.blue.toNat ++ be16 p.wmix.toNat ++ be16 p.level.toNat ++
  wordBytes p.fade ++ wordBytes p.delay ++ [p.shape]

/-- The n part records that stand one after another at the start of `b`. -/
def partsOf : Nat → List Byte → List PartRecord
  | 0, _ => []
  | n + 1, b => partOf b :: partsOf n (b.drop 34)

/-- The selector of a part, none for an invalid code or index. -/
def PartRecord.selector (p : PartRecord) : Option Selector := selectorOf p.selKind.toNat p.selNumber.toNat

/-- The aim kind code in bits 0..1 of the attribute byte. -/
def PartRecord.aimCode (p : PartRecord) : Nat := p.attributes.toNat % 4

/-- The colour code in bits 2..3 of the attribute byte. -/
def PartRecord.colourCode (p : PartRecord) : Nat := p.attributes.toNat / 4 % 4

/-- Level present, bit 4 of the attribute byte. -/
def PartRecord.hasLevel (p : PartRecord) : Bool := p.attributes.toNat / 16 % 2 == 1

/-- The aim of a part by its code: absent, a point or angles. -/
def PartRecord.aim (p : PartRecord) : Option Aim :=
  if p.aimCode = 1 then some (.point { x := p.a.toInt, y := p.b.toInt, z := p.c.toInt })
  else if p.aimCode = 2 then some (.angles { pan := p.a.toInt, tilt := p.b.toInt })
  else none

/-- The colour of a part by its code. -/
def PartRecord.colour (p : PartRecord) : Option ColourTarget :=
  if p.colourCode = 1 then
    some { r := p.red.toNat, g := p.green.toNat, b := p.blue.toNat, wmix := some p.wmix.toNat }
  else if p.colourCode = 2 then some { r := p.red.toNat, g := p.green.toNat, b := p.blue.toNat, wmix := none }
  else none

/-- The level of a part. -/
def PartRecord.levelValue (p : PartRecord) : Option Nat := if p.hasLevel then some p.level.toNat else none

/-- Check 4 of R102 on one part: aim kind code valid, a point on stage, angles in range. -/
def PartRecord.aimOk (p : PartRecord) : Bool :=
  p.aimCode != 3 &&
    (match p.aim with
      | none => true
      | some (.point pt) => pt.onStage
      | some (.angles a) => angleOk a.pan && angleOk a.tilt)

/-- Check 5 of R102 on one part: colour code valid and bits 5..7 of the attribute byte clear (R189). -/
def PartRecord.colourOk (p : PartRecord) : Bool := p.colourCode != 3 && decide (p.attributes.toNat < 32)

/-- Check 6 of R102 on one part: at least one attribute present. -/
def PartRecord.someAttribute (p : PartRecord) : Bool := p.aimCode != 0 || p.colourCode != 0 || p.hasLevel

/-- Check 7 of R102 on one part: shape code valid. -/
def PartRecord.shapeOk (p : PartRecord) : Bool := decide (p.shape.toNat < 2)

/-! ### Notices (Table 38, R191) -/

/-- Six detail bytes: the given ones, then zeros. -/
def detail (b : List Byte) : List Byte := (b ++ [0, 0, 0, 0, 0, 0]).take 6

/-- The 54-bit value of a JUMP (R191). -/
def jumpValue (old new : Nat) : Nat := old * 134217728 + new

/-- The kind byte of a notice. -/
def Notice.kindByte : Notice → Byte
  | .lock _ => 0x01
  | .run _ => 0x02
  | .slip _ _ => 0x03
  | .track _ _ => 0x04
  | .lineFault _ => 0x05
  | .stickFault _ _ _ => 0x06
  | .fixtureFlag _ _ => 0x07
  | .missingCue _ => 0x08
  | .saveDone => 0x09
  | .saveFailed => 0x0A
  | .imageInvalid => 0x0B
  | .broadcastDropped _ _ => 0x0C
  | .jump old new => byteOf (0x40 + jumpValue old new / 281474976710656)

/-- The six detail bytes of a notice. -/
def Notice.detailBytes : Notice → List Byte
  | .lock st => detail [lockCode st]
  | .run r => detail [boolByte r]
  | .slip skip e => detail ((if skip then 1 else 2) :: be16i e)
  | .track k st => detail [byteOf k.val, trackStateCode st]
  | .lineFault l => detail [byteOf l.val]
  | .stickFault i ax set => detail [byteOf i.val, (match ax with | .x => 0 | .y => 1), boolByte set]
  | .fixtureFlag f fl => detail [byteOf f.val, (match fl with | .reach => 0 | .blanked => 1)]
  | .missingCue c => detail [byteOf c.val]
  | .saveDone => detail []
  | .saveFailed => detail []
  | .imageInvalid => detail []
  | .broadcastDropped k t => detail [k, t]
  | .jump old new => be16 (jumpValue old new / 4294967296) ++ be32 (jumpValue old new)

/-- A notice record as its 11 bytes. -/
def NoticeRecord.bytes (n : NoticeRecord) : List Byte := n.notice.kindByte :: (wordBytes n.time ++ n.notice.detailBytes)

end Sys2Proof.Machine
end

