-- ==== Sys2Proof/Machine/Ops.lean ====
section
/-! DEFINITION. The named operations the commands share: time, notices and counters, lanes and replies, the service of a
request, access to the tables, and the slot images. -/

namespace Sys2Proof.Machine

/-! ### Time (R115) -/

/-- The local clock: milliseconds from reset modulo 2^32. -/
def State.localClock (s : State) : LocalTime := BitVec.ofNat 32 (s.scu.timeUs / 1000)

/-- How far local time `a` lies after local time `b`: the signed difference modulo 2^32 (section 3.4). -/
def since (a b : LocalTime) : Int := (a - b).toInt

/-- `t` plus a number of milliseconds, modulo 2^32. -/
def laterBy (t : LocalTime) (ms : Nat) : LocalTime := t + BitVec.ofNat 32 ms

/-- The microsecond at which the local clock reaches `t`: now when `t` is not ahead. -/
def State.usOf (s : State) (t : LocalTime) : Nat :=
  let ahead := since t s.localClock
  if 0 < ahead then (s.scu.timeUs / 1000 + ahead.toNat) * 1000 else s.scu.timeUs

/-- Time moves on to microsecond `u`; it never moves back (log entry 2). -/
def State.advanceTo (s : State) (u : Nat) : State := { s with scu := { s.scu with timeUs := max s.scu.timeUs u } }

/-! ### Notices and counters (R182, R184) -/

/-- A notice record joins the tail of the queue, or is discarded and counted lost when the queue is full (R182). -/
def Rqd.raise (q : Rqd) (n : NoticeRecord) : Rqd :=
  if q.notices.length < Config.noticeRoom then { q with notices := q.notices ++ [n] }
  else { q with lost := min (q.lost + 1) 65535, stats := { q.stats with lostNotices := q.stats.lostNotices + 1 } }

/-- A notice is raised now. -/
def State.raise (s : State) (n : Notice) : State := { s with rqd := s.rqd.raise { time := s.localClock, notice := n } }

/-- The counters of the RQD change. -/
def State.count (s : State) (f : Stats → Stats) : State := { s with rqd := { s.rqd with stats := f s.rqd.stats } }

def Stats.addAccepted (c : Stats) : Stats := { c with framesAccepted := c.framesAccepted + 1 }
def Stats.addCrc (c : Stats) : Stats := { c with crcErrors := c.crcErrors + 1 }
def Stats.addShort (c : Stats) : Stats := { c with shortFrames := c.shortFrames + 1 }
def Stats.addOverlong (c : Stats) : Stats := { c with overlongFrames := c.overlongFrames + 1 }
def Stats.addBusy (c : Stats) : Stats := { c with refusedBusy := c.refusedBusy + 1 }
def Stats.addDropped (c : Stats) : Stats := { c with broadcastsDropped := c.broadcastsDropped + 1 }
def Stats.addValidMark (c : Stats) : Stats := { c with validMarks := c.validMarks + 1 }
def Stats.addBadMark (c : Stats) : Stats := { c with badMarks := c.badMarks + 1 }
def Stats.addSkip (c : Stats) : Stats := { c with skips := c.skips + 1 }
def Stats.addRepeat (c : Stats) : Stats := { c with repeats := c.repeats + 1 }
def Stats.addJump (c : Stats) : Stats := { c with jumps := c.jumps + 1 }
def Stats.addUnderrun (c : Stats) : Stats := { c with trackUnderruns := c.trackUnderruns + 1 }

/-! ### Replies, lanes and the service of a request (R177 to R181) -/

/-- How many of the requests are unicasts: each holds a reserved reply place (R177). -/
def unicasts (l : List LinkRequest) : Nat := (l.filter fun r => !r.request.broadcast).length

/-- Reply places held: one for each unicast waiting or in progress, one for each built reply not sent in full (R177). -/
def State.placesHeld (s : State) : Nat :=
  unicasts s.rqd.normal + unicasts s.rqd.urgent + unicasts s.rqd.inProgress.toList + s.sli.replies.length

/-- A built reply joins the reply queue; the transmitter begins it when it stood idle (R177). -/
def State.pushReply (s : State) (r : Reply) : State :=
  { s with sli := { s.sli with
      replies := s.sli.replies ++ [r]
      sendingSince := if s.sli.replies.isEmpty then s.scu.timeUs else s.sli.sendingSince } }

/-- The reply to request `r` with answer `a`. -/
def replyTo (r : LinkRequest) (a : Answer) : Reply := { kind := r.kind, tag := r.request.tag, payload := a.payload }

/-- The kinds of the urgent lane: PARK, STOP, DOUSE, RELEASE and GO (Table 33). -/
def isUrgent (kind : Byte) : Bool := decide (0x28 ≤ kind.toNat) && decide (kind.toNat ≤ 0x2C)

/-- The lane of `r` has room (R178). -/
def State.laneHasRoom (s : State) (r : LinkRequest) : Bool :=
  if isUrgent r.kind then decide (s.rqd.urgent.length < Config.urgentRoom)
  else decide (s.rqd.normal.length < Config.normalRoom)

/-- `r` joins the tail of its lane. -/
def State.joinLane (s : State) (r : LinkRequest) : State :=
  if isUrgent r.kind then { s with rqd := { s.rqd with urgent := s.rqd.urgent ++ [r] } }
  else { s with rqd := { s.rqd with normal := s.rqd.normal ++ [r] } }

/-- With no request in progress, the RQD begins the head of the urgent lane, or of the normal lane when the urgent lane is
empty (R179). -/
def State.beginNext (s : State) : State :=
  match s.rqd.inProgress, s.rqd.urgent, s.rqd.normal with
  | none, r :: rest, _ => { s with rqd := { s.rqd with inProgress := some r, urgent := rest } }
  | none, [], r :: rest => { s with rqd := { s.rqd with inProgress := some r, normal := rest } }
  | _, _, _ => s

/-- The RQD takes a request that the SLI hands over (R178), and begins one when none is in progress (R179). -/
def State.takeIn (s : State) (r : LinkRequest) : State :=
  if r.request.broadcast then
    (if s.laneHasRoom r then (s.joinLane r).beginNext
     else (s.count Stats.addDropped).raise (.broadcastDropped r.kind r.request.tag))
  else if Config.replyRoom ≤ s.placesHeld then s.count Stats.addBusy
  else if s.laneHasRoom r then (s.joinLane r).beginNext
  else (s.count Stats.addBusy).pushReply (replyTo r (.refuse .busy))

/-- No request is in progress. -/
def State.dropRequest (s : State) : State := { s with rqd := { s.rqd with inProgress := none } }

/-- A request completes: a unicast's reply is built in the place it reserved, and the RQD begins the next request (R179). -/
def State.complete (s : State) (r : LinkRequest) (a : Answer) : State :=
  if r.request.broadcast then s.dropRequest.beginNext else (s.dropRequest.pushReply (replyTo r a)).beginNext

/-- The request stands before the RQD: in progress already, or handed over now by R178 and begun by R179 when nothing is in
progress (log entry 4). -/
def State.present (s : State) (r : LinkRequest) : State :=
  if s.rqd.inProgress = some r then s else s.takeIn r

/-- The service of one request: when it is in progress its work is done by `body` at one moment and its reply is built
(R179); otherwise it waits in its lane, or was turned away by R178. -/
def State.serve (s : State) (kind : Byte) (q : Request) (body : State → State × Answer) : State :=
  let r : LinkRequest := { kind := kind, request := q }
  let s1 := s.present r
  if s1.rqd.inProgress = some r then
    (let done := body s1
     done.1.complete r done.2)
  else s1

/-- The body of a request that reads state and changes none. -/
def readBody (answer : State → Answer) (s : State) : State × Answer := (s, answer s)

/-- The body of a request that changes state: the first failing check refuses it and changes nothing (R180). -/
def changeBody (checks : State → List (Bool × Status)) (effect : State → State × Answer) (s : State) : State × Answer :=
  match firstFailing (checks s) with
  | some st => (s, .refuse st)
  | none => effect s

/-- The IMS is not in its SAVING state (R193). -/
def State.notSaving (s : State) : Bool := s.ims.saving.isNone

/-- The length check and then the SAVING check of a table change (R3), before its own checks. -/
def tableChecks (lengthOk : Bool) (s : State) (own : List (Bool × Status)) : List (Bool × Status) :=
  (lengthOk, .badLength) :: (s.notSaving, .saving) :: own

/-- The payload has exactly n bytes. -/
def hasLength (q : Request) (n : Nat) : Bool := q.payload.length == n

/-- The payload length is `base` plus the count read at offset `at` times `unit`, the count is there to be read, and a frame
can hold the payload (R187). -/
def hasCountedLength (q : Request) (base atOffset size : Nat) : Bool :=
  decide (atOffset < q.payload.length) && decide (q.payload.length ≤ Config.maxPayload) &&
    q.payload.length == base + size * u8 q.payload atOffset

/-! ### Tables of the FXE -/

/-- A profile that no fixture evaluation reaches; it stands for the profile of a fixture whose profile is undefined, which
R1 rules out (log entry 18). -/
def Profile.blank : Profile := profileOf []

/-- Fixture `i`, or none while undefined. -/
def State.fixture? (s : State) (i : Fin 128) : Option Fixture := s.fxe.fixtures[i]

/-- The profile a configuration names. -/
def State.profileOf (s : State) (c : FixtureConfig) : Profile := (s.fxe.profiles[c.profile]).getD Profile.blank

/-- Fixture `i` becomes `f`. -/
def State.setFixture (s : State) (i : Fin 128) (f : Option Fixture) : State :=
  { s with fxe := { s.fxe with fixtures := s.fxe.fixtures.set i f } }

/-- A defined fixture `i` is changed by `f`; an undefined one stays undefined. -/
def State.modifyFixture (s : State) (i : Fin 128) (f : Fixture → Fixture) : State :=
  match s.fixture? i with
  | some fx => s.setFixture i (some (f fx))
  | none => s

/-- Each of the listed fixtures is changed by `f`. -/
def State.modifyFixtures (s : State) (l : List (Fin 128)) (f : Fixture → Fixture) : State :=
  l.foldl (fun s i => s.modifyFixture i f) s

/-- The defined fixtures that `p` holds for, in ascending number. -/
def State.fixturesWhere (s : State) (p : Fixture → Bool) : List (Fin 128) :=
  (List.finRange 128).filter fun i => (s.fixture? i).any p

/-- The fixture is a member of group `g`. -/
def Fixture.inGroup (f : Fixture) (g : Nat) : Bool := f.groups.getLsbD g

/-- The expansion of a selector into defined fixtures, in ascending number (R13, R108). -/
def State.expand (s : State) : Selector → List (Fin 128)
  | .fixture n => (List.finRange 128).filter fun i => i.val == n && (s.fixture? i).isSome
  | .group g => s.fixturesWhere fun f => f.inGroup g
  | .all => s.fixturesWhere fun _ => true

/-- Fixture `n` is defined. -/
def State.isDefined (s : State) (n : Nat) : Bool := if h : n < 128 then (s.fixture? ⟨n, h⟩).isSome else false

/-- A defined fixture names profile `n` (R1). -/
def State.profileInUse (s : State) (n : Nat) : Bool :=
  (List.finRange 128).any fun i => (s.fixture? i).any fun f => f.config.profile.val == n

/-- The members of track `k`: the fixtures whose aim active transition has source TRACK k (R142). -/
def State.members (s : State) (k : Fin 4) : List (Fin 128) :=
  s.fixturesWhere fun f => f.run.aim.core.source == .track k

/-! ### Slot images (R164) -/

/-- The listed values go into consecutive slots from index `i` on; indices past the image are left out. -/
def writeSlots (img : Vector Byte 512) (i : Nat) : List Byte → Vector Byte 512
  | [] => img
  | b :: rest => writeSlots (img.setIfInBounds i b) (i + 1) rest

/-- The values of n consecutive slots from index `i` on. -/
def readSlots (img : Vector Byte 512) (i : Nat) : Nat → List Byte
  | 0 => []
  | n + 1 => img.getD i 0 :: readSlots img (i + 1) n

/-- Line `l` is changed by `f`. -/
def State.modifyLine (s : State) (l : Fin 8) (f : Line → Line) : State := { s with lnu := s.lnu.set l (f s.lnu[l]) }

/-- Values are written into the next image from slot `slot` on. -/
def Line.writeNext (l : Line) (slot : Nat) (values : List Byte) : Line := { l with next := writeSlots l.next (slot - 1) values }

/-- The line static values go back into `n` slots of the next image from slot `slot` on (R9, R10). -/
def Line.clearNext (l : Line) (slot n : Nat) : Line := l.writeNext slot (readSlots l.statics (slot - 1) n)

/-- The line's latest image becomes a copy of its next image (R164). -/
def Line.swap (l : Line) : Line := { l with latest := l.next }

/-- The image swap of all eight lines (R164). -/
def State.swapImages (s : State) : State := { s with lnu := s.lnu.map Line.swap }

/-- A fixture's footprint: start slot and number of slots (R8). -/
def State.footprint (s : State) (c : FixtureConfig) : Nat := (s.profileOf c).footprint

/-- The fixture's static slot values go into its footprint in the next image of its line (R9, R165). -/
def State.writeStatics (s : State) (f : Fixture) : State :=
  s.modifyLine f.config.line fun l => l.writeNext f.config.start f.statics

/-- The line static values go back over a fixture's footprint in the next image of its line (R9, R10). -/
def State.clearFootprint (s : State) (c : FixtureConfig) : State :=
  s.modifyLine c.line fun l => l.clearNext c.start (s.footprint c)

/-- The rebuild of R165: line static values, then the static values of each fixture, then latest is next. -/
def State.rebuildImages (s : State) : State :=
  let blankLines : State := { s with lnu := s.lnu.map fun l => { l with next := l.statics } }
  let withFixtures := (List.finRange 128).foldl (fun t i => (s.fixture? i).elim t t.writeStatics) blankLines
  withFixtures.swapImages

/-! ### The runtime record (R48) -/

/-- A complete transition of source INIT from and to `v`, begun at local time `t` (Table 13). -/
def initTransition {α : Type} (v : α) (t : LocalTime) : Transition α :=
  { source := .init, start := .onLocal t, fromValue := v, toValue := v, duration := 0, shape := .linear, held := true,
    complete := true }

/-- The colour of a reset runtime record: full white at the profile's default wmix. -/
def resetColour (p : Profile) : Colour := { r := 65535, g := 65535, b := 65535, wmix := p.defaultWmix }

/-- Table 13: the runtime record after a reset at local time `t`. -/
def resetRuntime (c : FixtureConfig) (p : Profile) (t : LocalTime) : Runtime :=
  { aim := { core := initTransition (.angles c.park) t, space := .angleSpace, reachMark := false, target := none }
    aimPending := none, aimPresent := .angles c.park
    colour := initTransition (resetColour p) t, colourPending := none, colourPresent := resetColour p
    level := initTransition 0 t, levelPending := none, levelPresent := 0
    parked := false, stopped := none, doused := false
    desired := c.park, commanded := c.park, velocity := { pan := 0, tilt := 0 }
    reach := false, lag := false, gamut := false, clamped := false, blanked := false }

/-- The runtime record of a fixture is reset now. -/
def State.resetFixture (s : State) (f : Fixture) : Fixture :=
  { f with run := resetRuntime f.config (s.profileOf f.config) s.localClock }

end Sys2Proof.Machine
end

