-- ==== Sys2Proof/Machine/Aim.lean ====
section
/-! DEFINITION. The aim solution (R15 to R18), the clamp of angle aims (R20) and the conversion of angles to counts (R22).

The angle of a vector is found exactly. The vector (a, b√n) is squared as a complex number, which doubles its angle; the
half plane it lies in before each squaring is the next binary digit of its angle in turns. Seventeen digits give the angle
in half angle units, rounded down, and tell whether that is the exact angle. -/

namespace Sys2Proof.Machine

/-- The angle of (a, b√n) is half a turn or more: b < 0, or b = 0 and a < 0. -/
def lowerHalf (a b : Int) : Bool := decide (b < 0) || (b == 0 && decide (a < 0))

/-- The next `k` binary digits of the angle of (a, b√n) in turns, joined to `acc`, and whether they are all of it. -/
def turnDigits (n : Int) : Nat → Int → Int → Nat → Nat × Bool
  | 0, _, b, acc => (acc, b == 0)
  | 1, a, b, acc => (2 * acc + (if lowerHalf a b then 1 else 0), b == 0)
  | k + 2, a, b, acc =>
    turnDigits n (k + 1) (a * a - b * b * n) (2 * a * b) (2 * acc + (if lowerHalf a b then 1 else 0))

/-- The angle of (a, b√n) in angle units, 0..65536, rounded nearest-even (R16). -/
def angleOf (a b n : Int) : Nat :=
  let d := turnDigits n 17 a b 0
  let low := d.1 / 2
  if d.1 % 2 = 0 then low else if d.2 && low % 2 == 0 then low else low + 1

/-- The azimuth α = atan2(dy, dx) in -32767..32768 (R16). -/
def azimuth (dx dy : Int) : Int :=
  let r : Int := angleOf dx dy 1
  if 32768 < r then r - 65536 else r

/-- The tilt magnitude θ = atan2(h, axis) in 0..32768, with h the square root of `hh` (R16). -/
def tiltMagnitude (hh axis : Int) : Int := angleOf axis (if hh = 0 then 0 else 1) hh

/-- The candidates of a solution (R17) that lie in the pan window, and on either side of it the nearest two of each kind
more than R18 can choose: pan φ0 + j·32768 with tilt +θ for even j and -θ for odd j. -/
def candidates (base theta : Int) (pan : Window) : List Angles :=
  let first := (pan.lo - base) / 32768 - 2
  let last := (pan.hi - base) / 32768 + 3
  (List.range (last - first + 1).toNat).map fun i =>
    let j := first + i
    { pan := base + j * 32768, tilt := if j % 2 = 0 then theta else -theta }

/-- How far a value lies outside a window (R18). -/
def violation (w : Window) (v : Int) : Int := if v < w.lo then w.lo - v else if w.hi < v then v - w.hi else 0

/-- A candidate lies in both windows (R17). -/
def isInside (pan tilt : Window) (c : Angles) : Bool :=
  decide (pan.lo ≤ c.pan) && decide (c.pan ≤ pan.hi) && decide (tilt.lo ≤ c.tilt) && decide (c.tilt ≤ tilt.hi)

/-- The three rules of R17: `c` is chosen before `d` for reference pan `ref`. -/
def chosenBefore (ref : Int) (c d : Angles) : Bool :=
  let dc := (c.pan - ref).natAbs
  let dd := (d.pan - ref).natAbs
  if dc ≠ dd then decide (dc < dd)
  else if decide (0 ≤ c.tilt) != decide (0 ≤ d.tilt) then decide (0 ≤ c.tilt)
  else decide (c.pan < d.pan)

/-- The first of a list by an order, none of an empty list. -/
def firstBy (before : Angles → Angles → Bool) : List Angles → Option Angles
  | [] => none
  | c :: rest =>
    match firstBy before rest with
    | none => some c
    | some d => some (if before d c then d else c)

/-- The sum of the violations of a candidate (R18). -/
def violationSum (pan tilt : Window) (c : Angles) : Int := violation pan c.pan + violation tilt c.tilt

/-- A solution: desired angles, and whether the reach fallback was used. -/
structure Solution where
  angles : Angles
  fallback : Bool
  deriving DecidableEq, Repr

/-- R17 and R18 for base pan, tilt magnitude, windows and reference pan. -/
def chooseSolution (base theta : Int) (pan tilt : Window) (ref : Int) : Solution :=
  let all := candidates base theta pan
  match firstBy (chosenBefore ref) (all.filter (isInside pan tilt)) with
  | some c => { angles := c, fallback := false }
  | none =>
    let before := fun c d : Angles =>
      let sc := violationSum pan tilt c
      let sd := violationSum pan tilt d
      if sc ≠ sd then decide (sc < sd) else chosenBefore ref c d
    match firstBy before all with
    | some c => { angles := { pan := clampTo pan.lo pan.hi c.pan, tilt := clampTo tilt.lo tilt.hi c.tilt }, fallback := true }
    | none => { angles := { pan := clampTo pan.lo pan.hi ref, tilt := clampTo tilt.lo tilt.hi 0 }, fallback := true }

/-- R16: the base pan φ0 and the tilt magnitude of a point; none at the mount point. -/
def aimGeometry (c : FixtureConfig) (p : Point) (ref : Int) : Option (Int × Int) :=
  let dx := p.x - c.mount.x
  let dy := p.y - c.mount.y
  let dz := p.z - c.mount.z
  if dx = 0 ∧ dy = 0 ∧ dz = 0 then none
  else
    let theta := tiltMagnitude (dx * dx + dy * dy) (match c.orientation with | .hang => -dz | .stand => dz)
    let base := if dx = 0 ∧ dy = 0 then ref
      else match c.orientation with
        | .hang => azimuth dx dy - c.yaw
        | .stand => c.yaw - azimuth dx dy
    some (base, theta)

/-- The aim solution of a point for a fixture with reference pan `ref`; none at the mount point (R16). -/
def solve (c : FixtureConfig) (p : Point) (ref : Int) : Option Solution :=
  (aimGeometry c p ref).map fun g => chooseSolution g.1 g.2 c.panWindow c.tiltWindow ref

/-- Angles clamped into the soft windows (R20). -/
def clampAngles (c : FixtureConfig) (a : Angles) : Angles :=
  { pan := clampTo c.panWindow.lo c.panWindow.hi a.pan, tilt := clampTo c.tiltWindow.lo c.tiltWindow.hi a.tilt }

/-- Counts of a commanded angle against the mechanical range of its axis (R22). -/
def countsOf (range : Window) (a : Int) : Nat := (halfUp ((a - range.lo) * 65535) (range.hi - range.lo)).toNat

end Sys2Proof.Machine
end

