-- ==== Sys2Proof/Machine/Transition.lean ====
section
/-! DEFINITION. Transitions: progress and value (R26, R27), starts (R29 to R32), pending transitions and their promotion
(R33, R34), and the direct starts of AIM, TINT and LEVEL (R38). -/

namespace Sys2Proof.Machine

/-- A fade or delay as it is used: at most 600,000 ms (R25). -/
def limitFade (ms : Nat) : Nat := min ms Config.maxFade

/-- A wmix as it is used: at most 256 (R31). -/
def limitWmix (w : Nat) : Nat := min w 256

/-- The time from `start` to the pass, on the base of `start` (R26). -/
def elapsedAt (p : Pass) : Moment → Int
  | .onLocal t => since p.localTime t
  | .onShow t => (p.showTime : Int) - t

/-- The moment is on the LOCAL base. -/
def Moment.isLocal : Moment → Bool
  | .onLocal _ => true
  | .onShow _ => false

/-- The progress k of an active transition at a pass, 0..D (R26). -/
def Transition.progress {α : Type} (t : Transition α) (p : Pass) : Nat :=
  if t.held && t.start.isLocal then t.duration else min t.duration (elapsedAt p t.start).toNat

/-- The transition after a pass has found progress `k`: its complete bit (R47) and its held mark (R26). -/
def Transition.observed {α : Type} (t : Transition α) (k : Nat) : Transition α :=
  { t with complete := k == t.duration, held := t.held || (t.start.isLocal && k == t.duration) }

/-- The value at progress k of duration D between two integers (R27). -/
def interpolate (shape : Shape) (d k : Nat) (a b : Int) : Int :=
  if d = 0 then b
  else match shape with
    | .linear => halfAway (a * d + (b - a) * k) d
    | .ease => halfAway (a * (d * d * d : Nat) + (b - a) * (3 * (k * k * d : Nat) - 2 * (k * k * k : Nat))) (d * d * d : Nat)

/-- The value of a colour transition. -/
def interpolateColour (shape : Shape) (d k : Nat) (a b : Colour) : Colour :=
  { r := (interpolate shape d k a.r b.r).toNat, g := (interpolate shape d k a.g b.g).toNat
    b := (interpolate shape d k a.b b.b).toNat, wmix := (interpolate shape d k a.wmix b.wmix).toNat }

/-- The value of a point-space aim transition. -/
def interpolatePoint (shape : Shape) (d k : Nat) (a b : Point) : Point :=
  { x := interpolate shape d k a.x b.x, y := interpolate shape d k a.y b.y, z := interpolate shape d k a.z b.z }

/-- The value of an angle-space aim transition. -/
def interpolateAngles (shape : Shape) (d k : Nat) (a b : Angles) : Angles :=
  { pan := interpolate shape d k a.pan b.pan, tilt := interpolate shape d k a.tilt b.tilt }

/-- A new active transition: not yet evaluated. -/
def newTransition {α : Type} (source : Source) (start : Moment) (a b : α) (d : Nat) (shape : Shape) : Transition α :=
  { source := source, start := start, fromValue := a, toValue := b, duration := limitFade d, shape := shape, held := false,
    complete := false }

/-- The new aim active transition of a fixture toward a target: POINT-SPACE by R29, ANGLE-SPACE by R30. -/
def aimStart (f : Fixture) (source : Source) (start : Moment) (target : Aim) (d : Nat) (shape : Shape) : AimTransition :=
  match target, f.run.aimPresent with
  | .point t, .point p =>
    { core := newTransition source start (.point p) (.point t) d shape, space := .pointSpace, reachMark := false, target := none }
  | .angles a, _ =>
    { core := newTransition source start (.angles f.run.desired) (.angles a) d shape, space := .angleSpace,
      reachMark := false, target := none }
  | .point t, .angles _ =>
    let goal : Solution := (solve f.config t f.run.desired.pan).getD { angles := f.run.desired, fallback := false }
    { core := newTransition source start (.angles f.run.desired) (.angles goal.angles) d shape, space := .angleSpace,
      reachMark := goal.fallback, target := some t }

/-- A start on the aim attribute (R32). -/
def Fixture.startAim (f : Fixture) (source : Source) (start : Moment) (target : Aim) (d : Nat) (shape : Shape) : Fixture :=
  { f with run := { f.run with aim := aimStart f source start target d shape } }

/-- The to value of a colour: an absent wmix takes the profile default, a given one is at most 256 (R31). -/
def colourOf (p : Profile) (t : ColourTarget) : Colour :=
  { r := t.r, g := t.g, b := t.b, wmix := match t.wmix with | some w => limitWmix w | none => p.defaultWmix }

/-- A start on the colour attribute (R31, R32). -/
def Fixture.startColour (f : Fixture) (p : Profile) (source : Source) (start : Moment) (t : ColourTarget) (d : Nat)
    (shape : Shape) : Fixture :=
  { f with run := { f.run with colour := newTransition source start f.run.colourPresent (colourOf p t) d shape } }

/-- A start on the level attribute (R31, R32). -/
def Fixture.startLevel (f : Fixture) (source : Source) (start : Moment) (level : Nat) (d : Nat) (shape : Shape) : Fixture :=
  { f with run := { f.run with level := newTransition source start f.run.levelPresent level d shape } }

/-- A pending transition is due at a pass (R34). -/
def isDue {α : Type} (p : Pass) (x : Pending α) : Bool := decide (0 ≤ elapsedAt p x.due)

/-- The aim pending transition is promoted when it is due (R34). -/
def Fixture.promoteAim (f : Fixture) (p : Pass) : Fixture :=
  match f.run.aimPending with
  | some x =>
    if isDue p x then
      (let g := f.startAim x.source x.due x.toValue x.duration x.shape
       { g with run := { g.run with aimPending := none } })
    else f
  | none => f

/-- The colour pending transition is promoted when it is due (R34). -/
def Fixture.promoteColour (f : Fixture) (prof : Profile) (p : Pass) : Fixture :=
  match f.run.colourPending with
  | some x =>
    if isDue p x then
      (let g := f.startColour prof x.source x.due x.toValue x.duration x.shape
       { g with run := { g.run with colourPending := none } })
    else f
  | none => f

/-- The level pending transition is promoted when it is due (R34). -/
def Fixture.promoteLevel (f : Fixture) (p : Pass) : Fixture :=
  match f.run.levelPending with
  | some x =>
    if isDue p x then
      (let g := f.startLevel x.source x.due x.toValue x.duration x.shape
       { g with run := { g.run with levelPending := none } })
    else f
  | none => f

end Sys2Proof.Machine
end

