-- ==== Sys2Proof/Machine/Motion.lean ====
section
/-! DEFINITION. The slew limiter (R49 to R51). -/

namespace Sys2Proof.Machine

/-- vstep of an axis at step period P (R49). -/
def vstep (vmax period : Nat) : Nat := max 1 (vmax * period / 1000)

/-- astep of an axis at step period P (R49). -/
def astep (amax period : Nat) : Nat := max 1 (amax * (period * period) / 1000000)

/-- Two values have the same sign: both positive or both negative (R51). -/
def sameSign (a b : Int) : Bool := (decide (0 < a) && decide (0 < b)) || (decide (a < 0) && decide (b < 0))

/-- Orders 0 to 3 of R51: the velocity before arrival. -/
def slewVelocity (vs as : Nat) (c v d : Int) : Int :=
  let v0 := clampTo (-vs) vs v
  let e := d - c
  let vt := if e = 0 then 0 else signOf e * min (vs : Int) (isqrt (2 * as * e.natAbs))
  v0 + clampTo (-as) as (vt - v0)

/-- R51: one step of the limiter on one axis; the new commanded angle and velocity. -/
def slew (vs as : Nat) (w : Window) (c v d : Int) : Int × Int :=
  let e := d - c
  let v3 := slewVelocity vs as c v d
  let v4 := if sameSign v3 e && decide (e.natAbs < v3.natAbs) then e else v3
  let c5 := c + v4
  let v6 := if c5 = d ∧ v4.natAbs ≤ as then 0 else v4
  if c5 < w.lo then (w.lo, 0) else if w.hi < c5 then (w.hi, 0) else (c5, v6)

/-- Step 6 of the evaluation on both axes (R51, R57): the new commanded angles and velocities. -/
def slewBoth (p : Profile) (period : Nat) (c : FixtureConfig) (r : Runtime) (desired : Angles) : Angles × Angles :=
  let pan := slew (vstep p.panVmax period) (astep p.panAmax period) c.panWindow r.commanded.pan r.velocity.pan desired.pan
  let tilt :=
    slew (vstep p.tiltVmax period) (astep p.tiltAmax period) c.tiltWindow r.commanded.tilt r.velocity.tilt desired.tilt
  ({ pan := pan.1, tilt := tilt.1 }, { pan := pan.2, tilt := tilt.2 })

end Sys2Proof.Machine
end

