-- ==== Sys2Proof/Machine/Zones.lean ====
section
/-! DEFINITION. Keep-out zones and the stick offset in step 3 of the evaluation (R68 to R73, R153). -/

namespace Sys2Proof.Machine

/-- A point is inside a zone's box, all three strictly (R68). -/
def Zone.contains (z : Zone) (p : Point) : Bool :=
  decide (z.x.lo < p.x) && decide (p.x < z.x.hi) && decide (z.y.lo < p.y) && decide (p.y < z.y.hi) &&
    decide (z.z.lo < p.z) && decide (p.z < z.z.hi)

/-- A zone applies to a fixture with group set `groups` (R69). -/
def Zone.applies (z : Zone) (groups : BitVec 32) : Bool := z.enabled && (z.groups == 0 || z.groups &&& groups != 0)

/-- The six faces in the tie order of R72, each with its distance and the point moved to it. -/
def Zone.faces (z : Zone) (p : Point) : List (Int × Point) :=
  [(p.x - z.x.lo, { p with x := z.x.lo }), (z.x.hi - p.x, { p with x := z.x.hi }),
   (p.y - z.y.lo, { p with y := z.y.lo }), (z.y.hi - p.y, { p with y := z.y.hi }),
   (p.z - z.z.lo, { p with z := z.z.lo }), (z.z.hi - p.z, { p with z := z.z.hi })]

/-- The first face of least distance; `best` when no listed face is nearer. -/
def nearestFace (best : Int × Point) : List (Int × Point) → Point
  | [] => best.2
  | f :: rest => nearestFace (if f.1 < best.1 then f else best) rest

/-- One CLAMP zone moves a point inside its box to the nearest face (R72). -/
def Zone.push (z : Zone) (p : Point) : Point :=
  match z.faces p with
  | [] => p
  | f :: rest => nearestFace f rest

/-- The CLAMP stage over the zones in ascending number (R71): the point, and whether a zone moved it. -/
def clampStage (groups : BitVec 32) : List Zone → Point × Bool → Point × Bool
  | [], acc => acc
  | z :: rest, acc =>
    clampStage groups rest
      (if z.applies groups && (z.mode == .clamp) && z.contains acc.1 then (z.push acc.1, true) else acc)

/-- The BLANK test over every applying zone of either mode (R73). -/
def blankTest (groups : BitVec 32) (zones : List Zone) (p : Point) : Bool :=
  zones.any fun z => z.applies groups && z.contains p

/-- A stick's offsets apply to a fixture with group set `groups` (R153). -/
def Stick.appliesTo (k : Stick) (groups : BitVec 32) : Bool := k.group.any fun g => groups.getLsbD g.val

/-- The stick offsets that apply are added to x and y (R153). -/
def addSticks (sticks : List Stick) (groups : BitVec 32) (p : Point) : Point :=
  sticks.foldl (fun p k => if k.appliesTo groups then { p with x := p.x + k.offsetX, y := p.y + k.offsetY } else p) p

/-- The outcome of step 3 (R71): the zone-checked point, CLAMPED and BLANKED. -/
structure ZoneCheck where
  point : Point
  clamped : Bool
  blanked : Bool
  deriving DecidableEq, Repr

/-- Step 3 of the evaluation for a point (R71). -/
def zoneCheck (zones : List Zone) (sticks : List Stick) (groups : BitVec 32) (p : Point) : ZoneCheck :=
  let moved := clampStage groups zones (addSticks sticks groups p, false)
  { point := moved.1, clamped := moved.2, blanked := blankTest groups zones moved.1 }

end Sys2Proof.Machine
end

