-- ==== Sys2Proof/Machine/Colour.lean ====
section
/-! DEFINITION. The colour pipeline, step 8 of the evaluation (R79 to R93). -/

namespace Sys2Proof.Machine

/-- Stage 1: the white capacity m of a colour against a white vector (R80). -/
def whiteCapacity (c : Colour) (w : Rgb) : Nat :=
  let part := fun (channel : Nat) (weight : Int) => ((channel : Int) * 65535 / weight).toNat
  min 65535 (min (part c.r w.r) (min (part c.g w.g) (part c.b w.b)))

/-- Stage 1: the white drive W (R81), none without a white emitter (R82). -/
def whiteDrive (p : Profile) (c : Colour) : Option Nat :=
  p.whiteVector.map fun w => whiteCapacity c w * c.wmix / 256

/-- Stage 1: the residual colour (R81, R82). -/
def residual (p : Profile) (c : Colour) : Rgb :=
  match p.whiteVector with
  | none => { r := c.r, g := c.g, b := c.b }
  | some w =>
    let drive : Int := (whiteCapacity c w * c.wmix / 256 : Nat)
    { r := c.r - halfUp (drive * w.r) 65535, g := c.g - halfUp (drive * w.g) 65535, b := c.b - halfUp (drive * w.b) 65535 }

/-- Stage 2: the drive of one primary from its matrix row (R83). -/
def rowDrive (row res : Rgb) : Int := halfAway (row.r * res.r + row.g * res.g + row.b * res.b) 16384

/-- Stage 2: the primary drive (R83). -/
def matrixDrive (p : Profile) (res : Rgb) : Rgb :=
  { r := rowDrive p.matrixRed res, g := rowDrive p.matrixGreen res, b := rowDrive p.matrixBlue res }

/-- Stage 3: negative drive is cut to 0 (R84). -/
def cutNegative (e : Rgb) : Rgb := { r := max 0 e.r, g := max 0 e.g, b := max 0 e.b }

/-- The largest of the three drives. -/
def Rgb.largest (e : Rgb) : Int := max e.r (max e.g e.b)

/-- Stage 3: drive above full scale is clipped (R85) or scaled (R86). -/
def limitDrive (mode : GamutMode) (e : Rgb) : Rgb :=
  if 65535 < e.largest then
    match mode with
    | .clip => { r := min e.r 65535, g := min e.g 65535, b := min e.b 65535 }
    | .scale => { r := e.r * 65535 / e.largest, g := e.g * 65535 / e.largest, b := e.b * 65535 / e.largest }
  else e

/-- Stage 3 as a whole: the drive in range, and GAMUT (R84 to R87). -/
def gamutStage (mode : GamutMode) (e : Rgb) : Rgb × Bool :=
  let cut := cutNegative e
  let out := limitDrive mode cut
  (out, decide (cut ≠ e) || decide (65535 < cut.largest))

/-- Stages 4 to 6 for one emitter: level (R88), dousing and blanking (R89), curve (R91). -/
def finalDrive (curve : Curve) (level : Nat) (dark : Bool) (drive : Nat) : Nat :=
  let lit := if dark then 0 else drive * level / 65535
  match curve with
  | .linear => lit
  | .square => lit * lit / 65535

/-- Stage 7: the coarse slot value of an emitter with or without a fine offset (R92, R93). -/
def coarseValue (hasFine : Bool) (e : Nat) : Byte := byteOf (if hasFine then e / 256 else (e * 255 + 32767) / 65535)

/-- The final drives of the emitters, and GAMUT (R79). -/
structure EmitterDrive where
  red : Nat
  green : Nat
  blue : Nat
  white : Option Nat
  gamut : Bool
  deriving DecidableEq, Repr

/-- The colour pipeline (R79) on a colour present value, the level used, and whether DOUSED or BLANKED holds. -/
def colourPipeline (p : Profile) (c : Colour) (level : Nat) (dark : Bool) : EmitterDrive :=
  let out := gamutStage p.gamut (matrixDrive p (residual p c))
  let final := finalDrive p.curve level dark
  { red := final out.1.r.toNat, green := final out.1.g.toNat, blue := final out.1.b.toNat
    white := (whiteDrive p c).map final, gamut := out.2 }

/-- The slots of one 16-bit or 8-bit channel: coarse offset and, where present, fine offset, with their values. -/
def channelSlots (coarse : Nat) (fine : Option Nat) (value : Nat) (coarseByte : Byte) : List (Nat × Byte) :=
  (coarse, coarseByte) :: (fine.toList.map fun o => (o, byteOf value))

/-- The emitter slots of the footprint (R92, R93). -/
def emitterSlots (p : Profile) (e : EmitterDrive) : List (Nat × Byte) :=
  channelSlots p.redCoarse p.redFine e.red (coarseValue p.redFine.isSome e.red) ++
  channelSlots p.greenCoarse p.greenFine e.green (coarseValue p.greenFine.isSome e.green) ++
  channelSlots p.blueCoarse p.blueFine e.blue (coarseValue p.blueFine.isSome e.blue) ++
  (match p.whiteCoarse, e.white with
    | some o, some w => channelSlots o p.whiteFine w (coarseValue p.whiteFine.isSome w)
    | _, _ => [])

/-- The pan and tilt slots of the footprint (R22). -/
def angleSlots (p : Profile) (commanded : Angles) : List (Nat × Byte) :=
  let pan := countsOf p.panRange commanded.pan
  let tilt := countsOf p.tiltRange commanded.tilt
  channelSlots p.panCoarse p.panFine pan (byteOf (pan / 256)) ++
  channelSlots p.tiltCoarse p.tiltFine tilt (byteOf (tilt / 256))

/-- Every slot the slot map names, with its value (R2, R23). -/
def namedSlots (p : Profile) (commanded : Angles) (e : EmitterDrive) : List (Nat × Byte) :=
  angleSlots p commanded ++ emitterSlots p e ++ (p.speed.toList.map fun o => (o, p.speedValue))

/-- The value of footprint offset `o`: the named slot's value, or the static slot value (R23). -/
def slotValue (slots : List (Nat × Byte)) (statics : List Byte) (o : Nat) : Byte :=
  match slots.find? (fun x => x.1 == o) with
  | some x => x.2
  | none => statics.getD o 0

/-- The whole footprint (R23). -/
def footprintValues (p : Profile) (statics : List Byte) (commanded : Angles) (e : EmitterDrive) : List Byte :=
  (List.range p.footprint).map (slotValue (namedSlots p commanded e) statics)

/-- The offsets the slot map names (R2). -/
def Profile.mapped (p : Profile) : List Nat :=
  [p.panCoarse, p.tiltCoarse, p.redCoarse, p.greenCoarse, p.blueCoarse] ++ p.panFine.toList ++ p.tiltFine.toList ++
    p.redFine.toList ++ p.greenFine.toList ++ p.blueFine.toList ++ p.whiteCoarse.toList ++ p.whiteFine.toList ++
    p.speed.toList

end Sys2Proof.Machine
end

