-- ==== Sys2Proof/Machine/Track.lean ====
section
/-! DEFINITION. Performer tracks: update and service of the track point (R146, R147), and the commands TRACK-BIND,
TRACK-POINTS, TRACK-RELEASE and TRACK-QUERY (R143 to R149). -/

namespace Sys2Proof.Machine

/-- Track `k` becomes `t`. -/
def State.setTrack (s : State) (k : Fin 4) (t : Track) : State := { s with tku := s.tku.set k t }

/-- The entries due at or before `t` leave the head of a queue: the last of them, and the queue left (R147). -/
def passDue (t : LocalTime) : List TrackEntry → Option TrackEntry × List TrackEntry
  | [] => (none, [])
  | e :: rest =>
    if 0 ≤ since t e.due then
      (let more := passDue t rest
       (some (more.1.getD e), more.2))
    else (none, e :: rest)

/-- The update of a bound track to `t`, and the state it changes to, if it does (R147). -/
def Track.updateTo (k : Track) (t : LocalTime) : Track × Option TrackState :=
  match passDue t k.queue with
  | (none, _) => ({ k with updated := some t }, none)
  | (some e, rest) =>
    let moved : Track :=
      { k with fromPoint := some e.point, fromTime := some e.due, queue := rest, joins := [], updated := some t }
    if rest ≠ [] then (moved, none)
    else if e.last then ({ moved with state := .ended }, some .ended)
    else ({ moved with state := .starved }, some .starved)

/-- Track `k` is updated to `t` with its underrun count and its TRACK notice; an UNBOUND track is not (R141, R147). -/
def State.updateTrack (s : State) (k : Fin 4) (t : LocalTime) : State :=
  if s.tku[k].state = .unbound then s
  else
    let u := s.tku[k].updateTo t
    let s1 := s.setTrack k u.1
    match u.2 with
    | none => s1
    | some .starved => (s1.count Stats.addUnderrun).raise (.track k .starved)
    | some st => s1.raise (.track k st)

/-- Track `k` is updated to `t` unless it has been already (R147). -/
def State.updateTrackOnce (s : State) (k : Fin 4) (t : LocalTime) : State :=
  if s.tku[k].updated = some t then s else s.updateTrack k t

/-- At a step expiry the bound tracks with no member are updated (R147). -/
def State.updateMemberless (s : State) (t : LocalTime) : State :=
  (List.finRange 4).foldl (fun s k => if (s.members k).isEmpty then s.updateTrack k t else s) s

/-- At the completion of a pass the bound tracks not yet updated for its expiry are updated (R147). -/
def State.updateRemaining (s : State) (t : LocalTime) : State :=
  (List.finRange 4).foldl (fun s k => s.updateTrackOnce k t) s

/-- One coordinate at the fraction num/den, clamped to 0..1, of the way from `a` to `b` (R146). -/
def trackCoordinate (num den a b : Int) : Int :=
  if den ≤ num then b else if num ≤ 0 then a else halfAway (a * den + (b - a) * num) den

/-- The point on the way from `a` to `b` (R146). -/
def trackPoint (num den : Int) (a b : Point) : Point :=
  { x := trackCoordinate num den a.x b.x, y := trackCoordinate num den a.y b.y, z := trackCoordinate num den a.z b.z }

/-- The point a track serves to member `f` at local time `t` (R146). -/
def Track.serve (k : Track) (f : Fin 128) (mount : Point) (t : LocalTime) : Point :=
  let join : Option Point := (k.joins.find? fun j => j.1 == f).bind fun j => j.2
  match k.queue, k.fromPoint with
  | [], some p => p
  | [], none => join.getD mount
  | h :: _, origin =>
    let begun := k.fromTime.getD t
    match origin, join with
    | some p, _ => trackPoint (since t begun) (since h.due begun) p h.point
    | none, some p => trackPoint (since t begun) (since h.due begun) p h.point
    | none, none => h.point

/-! ### Commands -/

/-- A member's aim becomes a DIRECT hold at the point or the angles it has (R148). -/
def Fixture.holdAim (t : LocalTime) (f : Fixture) : Fixture :=
  match f.run.aimPresent with
  | .point p => f.startAim .direct (.onLocal t) (.point p) 0 .linear
  | .angles _ => f.startAim .direct (.onLocal t) (.angles f.run.desired) 0 .linear

/-- The members of track `k` are released and the track becomes UNBOUND (R148), with no update time left, which R148 does not
say (log entry 33), and no from-time (log entry 20). -/
def State.releaseTrack (s : State) (k : Fin 4) : State :=
  (s.modifyFixtures (s.members k) (Fixture.holdAim s.localClock)).setTrack k Track.unbound

/-- The join point of a fixture at a bind (R143, order 3). -/
def Fixture.joinPoint (f : Fixture) : Option Point :=
  match f.run.aimPresent with
  | .point p => some p
  | .angles _ => none

/-- The aim of a fixture bound to track `k` at local time `t` (R143, order 4). -/
def Fixture.bindTo (k : Fin 4) (t : LocalTime) (f : Fixture) : Fixture :=
  { f with run := { f.run with aim :=
      { core := newTransition (.track k) (.onLocal t) (.track k) (.track k) 0 .linear, space := .pointSpace,
        reachMark := false, target := none } } }

/-- The bind of R143. -/
def State.bindTrack (s : State) (k : Fin 4) (g : Nat) : State × Answer :=
  let s1 := if s.tku[k].state = .unbound then s else s.releaseTrack k
  let bound := s1.expand (.group g)
  let joins := bound.map fun i => (i, (s1.fixture? i).bind Fixture.joinPoint)
  let s2 := s1.modifyFixtures bound (Fixture.bindTo k s.localClock)
  (s2.setTrack k { Track.unbound with state := .waiting, joins := joins }, .ok [byteOf bound.length])

/-- TRACK-BIND (R143). -/
def execTrackBind (q : Request) (s : State) : Host.Outcome State Fault Refusal :=
  .next (s.serve 0x40 q (changeBody
    (fun _ => [(hasLength q 2, .badLength), (decide (u8 q.payload 0 < 4), .badValue), (decide (u8 q.payload 1 < 32), .badValue)])
    (fun s => s.bindTrack (Fin.ofNat 4 (u8 q.payload 0)) (u8 q.payload 1))))

/-- The track entries of a TRACK-POINTS: point, interval and end flag code (R190). -/
structure SentEntry where
  point : Point
  interval : Nat
  flag : Nat
  deriving DecidableEq, Repr

/-- The n entries that stand one after another at the start of `b` (R190). -/
def sentEntries : Nat → List Byte → List SentEntry
  | 0, _ => []
  | n + 1, b => { point := pointField b 0, interval := u16 b 12, flag := u8 b 14 } :: sentEntries n (b.drop 15)

/-- Due times are given from `after` on, each the one before plus the entry's interval (R145). -/
def giveDueTimes (after : LocalTime) : List SentEntry → List TrackEntry
  | [] => []
  | e :: rest =>
    let due := laterBy after e.interval
    { point := e.point, due := due, last := e.flag == 1 } :: giveDueTimes due rest

/-- The acceptance of entries at local time `a` (R145); whether the track became RUNNING by it. -/
def Track.accept (k : Track) (a : LocalTime) (entries : List SentEntry) : Track × Bool :=
  if k.state = .running then
    ({ k with queue := k.queue ++ giveDueTimes ((k.queue.getLast?.map TrackEntry.due).getD a) entries }, false)
  else ({ k with state := .running, fromTime := some a, queue := k.queue ++ giveDueTimes a entries }, true)

/-- The effect of an accepted TRACK-POINTS (R145). -/
def State.appendPoints (s : State) (k : Fin 4) (entries : List SentEntry) : State × Answer :=
  let t := s.tku[k].accept s.localClock entries
  let s1 := s.setTrack k t.1
  let s2 := if t.2 then s1.raise (.track k .running) else s1
  (s2, .ok [byteOf t.1.queue.length, trackStateCode t.1.state])

/-- TRACK-POINTS (R144, R145). -/
def execTrackPoints (q : Request) (s : State) : Host.Outcome State Fault Refusal :=
  let k := u8 q.payload 0
  let m := u8 q.payload 1
  let entries := sentEntries m (q.payload.drop 2)
  .next (s.serve 0x41 q (changeBody
    (fun s => [(hasCountedLength q 2 1 15, .badLength), (decide (k < 4), .badValue), (decide (1 ≤ m ∧ m ≤ 15), .badValue),
      (entries.all fun e => e.point.onStage, .badValue),
      (entries.all fun e => decide (1 ≤ e.interval ∧ e.interval ≤ 10000) && decide (e.flag < 2), .badValue),
      (s.tku[Fin.ofNat 4 k].state != .unbound, .noSuch),
      (decide (s.tku[Fin.ofNat 4 k].queue.length + m ≤ Config.trackRoom), .full)])
    (fun s => s.appendPoints (Fin.ofNat 4 k) entries)))

/-- TRACK-RELEASE (R148). -/
def execTrackRelease (q : Request) (s : State) : Host.Outcome State Fault Refusal :=
  let k : Fin 4 := Fin.ofNat 4 (u8 q.payload 0)
  .next (s.serve 0x42 q (changeBody
    (fun s => [(hasLength q 1, .badLength), (decide (u8 q.payload 0 < 4), .badValue), (s.tku[k].state != .unbound, .noSuch)])
    (fun s => (s.releaseTrack k, .ok [byteOf (s.members k).length]))))

/-- An optional word field, 0 where it has no value (R186). -/
def optWordBytes : Option (BitVec 32) → List Byte
  | none => be32 0
  | some t => wordBytes t

/-- The TRACK-QUERY data of a track (Table 35). -/
def Track.queryData (k : Track) (members : Nat) : List Byte :=
  [trackStateCode k.state, byteOf members, byteOf k.queue.length, boolByte k.fromPoint.isSome] ++
  pointBytes (k.fromPoint.getD ⟨0, 0, 0⟩) ++ optWordBytes k.fromTime ++ optWordBytes (k.queue.head?.map TrackEntry.due) ++
  [boolByte k.updated.isSome] ++ optWordBytes k.updated

/-- TRACK-QUERY (R149). -/
def execTrackQuery (q : Request) (s : State) : Host.Outcome State Fault Refusal :=
  let k : Fin 4 := Fin.ofNat 4 (u8 q.payload 0)
  .next (s.serve 0x43 q (changeBody
    (fun _ => [(hasLength q 1, .badLength), (decide (u8 q.payload 0 < 4), .badValue)])
    (fun s => (s, .ok (s.tku[k].queryData (s.members k).length)))))

end Sys2Proof.Machine
end

