-- ==== Sys2Proof/Machine/Stick.lean ====
section
/-! DEFINITION. Joysticks: conversion, rail faults and integration (R151, R152), and the stick commands (R154 to R157). -/

namespace Sys2Proof.Machine

/-- A rail reading: at or below 16, or at or above 4079 (R151). -/
def isRail (reading : Nat) : Bool := decide (reading ≤ 16) || decide (4079 ≤ reading)

/-- The readings of stick `i`, x then y. -/
def stickReadings (r : Readings) (i : Fin 2) : Nat × Nat :=
  if i = 0 then (r.x0.toNat, r.y0.toNat) else (r.x1.toNat, r.y1.toNat)

/-- Stick `i` becomes `k`. -/
def State.setStick (s : State) (i : Fin 2) (k : Stick) : State := { s with sku := { s.sku with sticks := s.sku.sticks.set i k } }

/-- The stick inputs present these readings from now on. -/
def State.setInputs (s : State) (r : Readings) : State := { s with sku := { s.sku with inputs := r } }

/-- A STICK-FAULT notice is raised when the fault of an axis changes (R151). -/
def State.raiseFaultChange (s : State) (i : Fin 2) (axis : Axis) (before after : Bool) : State :=
  if before = after then s else s.raise (.stickFault i axis after)

/-- A conversion of stick `i` that reads `x` and `y`: raw readings, faults and their notices (R151). -/
def State.convert (s : State) (i : Fin 2) (x y : Nat) : State :=
  let k := s.sku.sticks[i]
  let s1 := s.setStick i { k with rawX := x, rawY := y, faultX := isRail x, faultY := isRail y }
  (s1.raiseFaultChange i .x k.faultX (isRail x)).raiseFaultChange i .y k.faultY (isRail y)

/-- The effective deflection (R152). -/
def deflection (raw centre deadBand : Nat) : Int :=
  let d : Int := (raw : Int) - centre
  if d.natAbs ≤ deadBand then 0 else d - signOf d * deadBand

/-- The offset of an axis after the integration of one step of length `step` (R152). -/
def integrateAxis (offset : Int) (raw centre deadBand gain range step : Nat) : Int :=
  clampTo (-range) range (offset + halfAway (deflection raw centre deadBand * gain * step) 2047000)

/-- The integration of both axes after a conversion at an expiry; a faulted axis holds its offset (R151, R152). -/
def Stick.integrate (k : Stick) (step : Nat) : Stick :=
  { k with
    offsetX := if k.faultX then k.offsetX else integrateAxis k.offsetX k.rawX k.centreX k.deadBand k.gain k.range step
    offsetY := if k.faultY then k.offsetY else integrateAxis k.offsetY k.rawY k.centreY k.deadBand k.gain k.range step }

/-- Stick `i` at the sampling of a step expiry: converted and integrated in CONTINUOUS sampling, held in SINGLE (R152), by the
settings it has now, also where a STICK-SET came after the expiry (log entry 34). -/
def State.sampleStick (s : State) (r : Readings) (step : Nat) (i : Fin 2) : State :=
  if s.sku.sticks[i].sampling = .continuous then
    (let s1 := s.convert i (stickReadings r i).1 (stickReadings r i).2
     s1.setStick i (s1.sku.sticks[i].integrate step))
  else s

/-- The sampling of a step expiry (R152). -/
def State.sampleSticks (s : State) (r : Readings) (step : Nat) : State := (s.sampleStick r step 0).sampleStick r step 1

/-- Both offsets 0, faults clear, raw readings 2048: the part of a stick that every reset sets (R150). -/
def Stick.rest (k : Stick) : Stick :=
  { k with offsetX := 0, offsetY := 0, faultX := false, faultY := false, rawX := 2048, rawY := 2048 }

/-! ### Commands -/

/-- The stick a payload names. -/
def stickField (q : Request) : Fin 2 := Fin.ofNat 2 (u8 q.payload 0)

/-- The group field of STICK-SET: none, or a group number. -/
def groupOption (n : Nat) : Option (Fin 32) := (optIndex n).map (Fin.ofNat 32)

/-- The settings of a STICK-SET written into a stick, its offsets clamped into the new range (R154). -/
def Stick.withSettings (k : Stick) (p : List Byte) : Stick :=
  let range := u16 p 7
  { k with
    group := groupOption (u8 p 1), sampling := if u8 p 2 = 1 then .single else .continuous
    deadBand := u16 p 3, gain := u16 p 5, range := range
    offsetX := clampTo (-range) range k.offsetX, offsetY := clampTo (-range) range k.offsetY }

/-- STICK-SET (R154). -/
def execStickSet (q : Request) (s : State) : Host.Outcome State Fault Refusal :=
  let p := q.payload
  .next (s.serve 0x48 q (changeBody
    (fun s => tableChecks (hasLength q 9) s
      [(decide (u8 p 0 < 2), .badValue), (decide (u8 p 1 < 32 ∨ u8 p 1 = 255), .badValue), (decide (u8 p 2 < 2), .badValue),
       (decide (u16 p 3 ≤ 400), .badValue), (decide (1 ≤ u16 p 5 ∧ u16 p 5 ≤ 20000), .badValue),
       (decide (u16 p 7 ≤ 50000), .badValue)])
    (fun s => (s.setStick (stickField q) (s.sku.sticks[stickField q].withSettings p), .ok []))))

/-- The effect of a STICK-CENTRE that passes its checks: one conversion, then the centres or NOT-READY (R155). -/
def State.centreStick (s : State) (i : Fin 2) (r : Readings) : State × Answer :=
  let x := (stickReadings r i).1
  let y := (stickReadings r i).2
  let s1 := (s.setInputs r).convert i x y
  let data := be16 x ++ be16 y
  if isRail x || isRail y then (s1, { status := .notReady, data := data })
  else (s1.setStick i { s1.sku.sticks[i] with centreX := x, centreY := y }, .ok data)

/-- STICK-CENTRE (R155). -/
def execStickCentre (q : Request) (adc : Readings) (s : State) : Host.Outcome State Fault Refusal :=
  .next (s.serve 0x49 q (changeBody
    (fun s => tableChecks (hasLength q 1) s [(decide (u8 q.payload 0 < 2), .badValue)])
    (fun s => s.centreStick (stickField q) adc)))

/-- STICK-ZERO (R156). -/
def execStickZero (q : Request) (s : State) : Host.Outcome State Fault Refusal :=
  .next (s.serve 0x4A q (changeBody
    (fun _ => [(hasLength q 1, .badLength), (decide (u8 q.payload 0 < 2), .badValue)])
    (fun s => (s.setStick (stickField q) { s.sku.sticks[stickField q] with offsetX := 0, offsetY := 0 }, .ok []))))

/-- The effect of an accepted STICK-SAMPLE (R156). -/
def State.sampleOnce (s : State) (i : Fin 2) (r : Readings) : State × Answer :=
  let s1 := (s.setInputs r).convert i (stickReadings r i).1 (stickReadings r i).2
  let k := s1.sku.sticks[i]
  (s1, .ok (be16 k.rawX ++ be16 k.rawY ++ [boolByte k.faultX, boolByte k.faultY]))

/-- STICK-SAMPLE (R156). -/
def execStickSample (q : Request) (adc : Readings) (s : State) : Host.Outcome State Fault Refusal :=
  .next (s.serve 0x4B q (changeBody
    (fun _ => [(hasLength q 1, .badLength), (decide (u8 q.payload 0 < 2), .badValue)])
    (fun s => s.sampleOnce (stickField q) adc)))

/-- The STICK-QUERY data of a stick (Table 35). -/
def Stick.queryData (k : Stick) : List Byte :=
  [optByte (k.group.map Fin.val), samplingCode k.sampling] ++ be16 k.centreX ++ be16 k.centreY ++ be16 k.deadBand ++
  be16 k.gain ++ be16 k.range ++ be32i k.offsetX ++ be32i k.offsetY ++ [boolByte k.faultX, boolByte k.faultY] ++
  be16 k.rawX ++ be16 k.rawY

/-- STICK-QUERY (R157). -/
def execStickQuery (q : Request) (s : State) : Host.Outcome State Fault Refusal :=
  .next (s.serve 0x4C q (changeBody
    (fun _ => [(hasLength q 1, .badLength), (decide (u8 q.payload 0 < 2), .badValue)])
    (fun s => (s, .ok (s.sku.sticks[stickField q].queryData)))))

end Sys2Proof.Machine
end

