-- ==== Sys2Proof/Machine/Cue.lean ====
section
/-! DEFINITION. Cues: the firing walk (R108 to R113), GO, and the build commands CUE-OPEN, CUE-PART, CUE-DELETE and
CUE-READ (R100 to R106). -/

namespace Sys2Proof.Machine

/-! ### The firing walk -/

/-- A firing: source cue, moment on the firing's base, and whether fades and delays are taken as 0 (R108, R113). -/
structure Firing where
  cue : Nat
  moment : Moment
  snapped : Bool
  deriving DecidableEq, Repr

/-- A moment later by a delay on its base (R110). -/
def Moment.later : Moment → Nat → Moment
  | .onShow t, ms => .onShow (t + ms)
  | .onLocal t, ms => .onLocal (laterBy t ms)

/-- The fade a firing uses for a part (R108, R113). -/
def Firing.fade (w : Firing) (p : PartRecord) : Nat := if w.snapped then 0 else limitFade p.fade.toNat

/-- The delay a firing uses for a part (R108, R113). -/
def Firing.delay (w : Firing) (p : PartRecord) : Nat := if w.snapped then 0 else limitFade p.delay.toNat

/-- The pending transition a firing sets for a part (R110). -/
def Firing.pendingOf {α : Type} (w : Firing) (p : PartRecord) (v : α) : Pending α :=
  { source := .cue w.cue, due := w.moment.later (w.delay p), toValue := v, duration := w.fade p, shape := shapeOf p.shape.toNat }

/-- The aim of a part fired on a fixture: a start (R109) or a pending transition (R110). -/
def Firing.fireAim (w : Firing) (p : PartRecord) (f : Fixture) : Fixture :=
  match p.aim with
  | none => f
  | some a =>
    if w.delay p = 0 then f.startAim (.cue w.cue) w.moment a (w.fade p) (shapeOf p.shape.toNat)
    else { f with run := { f.run with aimPending := some (w.pendingOf p a) } }

/-- The colour of a part fired on a fixture. -/
def Firing.fireColour (w : Firing) (p : PartRecord) (prof : Profile) (f : Fixture) : Fixture :=
  match p.colour with
  | none => f
  | some c =>
    if w.delay p = 0 then f.startColour prof (.cue w.cue) w.moment c (w.fade p) (shapeOf p.shape.toNat)
    else { f with run := { f.run with colourPending := some (w.pendingOf p c) } }

/-- The level of a part fired on a fixture. -/
def Firing.fireLevel (w : Firing) (p : PartRecord) (f : Fixture) : Fixture :=
  match p.levelValue with
  | none => f
  | some v =>
    if w.delay p = 0 then f.startLevel (.cue w.cue) w.moment v (w.fade p) (shapeOf p.shape.toNat)
    else { f with run := { f.run with levelPending := some (w.pendingOf p v) } }

/-- One part fired on one fixture: aim, colour, level in turn (R108). -/
def Firing.firePart (w : Firing) (p : PartRecord) (s : State) (f : Fixture) : Fixture :=
  w.fireLevel p (w.fireColour p (s.profileOf f.config) (w.fireAim p f))

/-- How many attributes a part sets. -/
def PartRecord.attributeCount (p : PartRecord) : Nat :=
  p.aim.toList.length + p.colour.toList.length + p.levelValue.toList.length

/-- The fixtures a part names now (R108). -/
def State.partFixtures (s : State) (p : PartRecord) : List (Fin 128) := (p.selector.map s.expand).getD []

/-- The walk over the parts in stored order; with the starts and the pending transitions counted (R107, R108). -/
def Firing.walk (w : Firing) : List PartRecord → State × Nat × Nat → State × Nat × Nat
  | [], acc => acc
  | p :: rest, (s, starts, pendings) =>
    let l := s.partFixtures p
    let n := l.length * p.attributeCount
    w.walk rest
      (s.modifyFixtures l (fun f => w.firePart p s f),
       if w.delay p = 0 then starts + n else starts, if w.delay p = 0 then pendings else pendings + n)

/-- Cue `c`. -/
def State.cueOf (s : State) (c : Fin 96) : Cue := s.pbu.cues[c]

/-- Cue `c` becomes `k`. -/
def State.setCue (s : State) (c : Fin 96) (k : Cue) : State := { s with pbu := { s.pbu with cues := s.pbu.cues.set c k } }

/-- A timeline entry handed to the PBU: a READY cue is fired on the SHOW base, any other is skipped (R112, R113). -/
def State.fireEntry (snapped : Bool) (s : State) (e : TimelineEntry) : State :=
  if (s.cueOf e.cue).state = .ready then
    (({ cue := e.cue.val, moment := .onShow s.scu.showTime, snapped := snapped } : Firing).walk (s.cueOf e.cue).parts
      (s, 0, 0)).1
  else s.raise (.missingCue e.cue)

/-- The effect of an accepted GO (R107). -/
def State.goCue (s : State) (c : Fin 96) : State × Answer :=
  let done := ({ cue := c.val, moment := .onLocal s.localClock, snapped := false } : Firing).walk (s.cueOf c).parts (s, 0, 0)
  (done.1, .ok (be16 done.2.1 ++ be16 done.2.2))

/-- The cue a payload names. -/
def cueField (q : Request) : Fin 96 := Fin.ofNat 96 (u8 q.payload 0)

/-- GO (R107). -/
def execGo (q : Request) (s : State) : Host.Outcome State Fault Refusal :=
  .next (s.serve 0x2C q (changeBody
    (fun s => [(hasLength q 1, .badLength), (decide (u8 q.payload 0 < 96), .badValue),
      ((s.cueOf (cueField q)).state == .ready, .notReady)])
    (fun s => s.goCue (cueField q))))

/-! ### The pool and the builds -/

/-- Cue `c` becomes EMPTY and its parts return to the free list (R98, R105). -/
def State.emptyCue (s : State) (c : Fin 96) : State :=
  { s with pbu := { s.pbu with
      cues := s.pbu.cues.set c Cue.blank, poolFree := s.pbu.poolFree + (s.cueOf c).parts.length } }

/-- The open-build record becomes none. -/
def State.closeBuild (s : State) : State := { s with pbu := { s.pbu with openBuild := none } }

/-- A build abort (R99). -/
def State.abortBuild (s : State) : State :=
  match s.pbu.openBuild with
  | some b => (s.emptyCue b.cue).closeBuild
  | none => s

/-- The cue another than `c` whose build a CUE-OPEN of `c` aborts (R101, order 1). -/
def State.otherBuild (s : State) (c : Fin 96) : Option (Fin 96) :=
  s.pbu.openBuild.bind fun b => if b.cue = c then none else some b.cue

/-- The effect of an accepted CUE-OPEN (R101). -/
def State.openCue (s : State) (c : Fin 96) (n : Nat) : State × Answer :=
  let other := s.otherBuild c
  let s1 := (if other.isSome then s.abortBuild else s).emptyCue c
  let s2 := s1.setCue c { state := .opened, declared := n, parts := [] }
  let s3 : State := { s2 with pbu := { s2.pbu with openBuild := some { cue := c, declared := n, received := 0 } } }
  (s3, .ok (optByte (other.map Fin.val) :: be16 s3.pbu.poolFree))

/-- CUE-OPEN (R100, R101). -/
def execCueOpen (q : Request) (s : State) : Host.Outcome State Fault Refusal :=
  let n := u8 q.payload 1
  .next (s.serve 0x30 q (changeBody
    (fun s => tableChecks (hasLength q 2) s [(decide (u8 q.payload 0 < 96), .badValue), (decide (1 ≤ n ∧ n ≤ 64), .badValue)])
    (fun s => s.openCue (cueField q) n)))

/-- The effect of a CUE-PART that passes checks 1 to 9 of R102: the parts are appended, and the cue becomes READY with the
last of them (R103). -/
def State.appendParts (s : State) (c : Fin 96) (parts : List PartRecord) : State × Answer :=
  let k := s.cueOf c
  let held := k.parts ++ parts
  let done := held.length == k.declared
  let s1 := s.setCue c { k with parts := held, state := if done then .ready else .opened }
  let s2 : State := { s1 with pbu := { s1.pbu with
    poolFree := s1.pbu.poolFree - parts.length
    openBuild := if done then none else some { cue := c, declared := k.declared, received := held.length } } }
  (s2, .ok ([byteOf held.length, cueStateCode (if done then .ready else .opened)] ++ be16 s2.pbu.poolFree))

/-- The abort of R104 with its FULL answer. -/
def State.abortFull (s : State) : State × Answer :=
  let s1 := s.abortBuild
  (s1, { status := .full, data := be16 s1.pbu.poolFree })

/-- CUE-PART (R102 to R104). -/
def execCuePart (q : Request) (s : State) : Host.Outcome State Fault Refusal :=
  let c := cueField q
  let m := u8 q.payload 1
  let parts := partsOf m (q.payload.drop 2)
  .next (s.serve 0x31 q (changeBody
    (fun s => tableChecks (hasCountedLength q 2 1 34) s
      [(decide (u8 q.payload 0 < 96), .badValue), (decide (1 ≤ m ∧ m ≤ 7), .badValue),
       ((s.cueOf c).state == .opened, .notOpen), (parts.all fun p => p.selector.isSome, .badValue),
       (parts.all PartRecord.aimOk, .badValue), (parts.all PartRecord.colourOk, .badValue),
       (parts.all PartRecord.someAttribute, .badValue), (parts.all PartRecord.shapeOk, .badValue),
       (decide ((s.cueOf c).parts.length + m ≤ (s.cueOf c).declared), .badValue)])
    (fun s => if m ≤ s.pbu.poolFree then s.appendParts c parts else s.abortFull)))

/-- The effect of an accepted CUE-DELETE (R105). -/
def State.deleteCue (s : State) (c : Fin 96) : State × Answer :=
  let s1 := s.emptyCue c
  let s2 := if (s.cueOf c).state = .opened then s1.closeBuild else s1
  (s2, .ok (be16 s2.pbu.poolFree))

/-- CUE-DELETE (R105). -/
def execCueDelete (q : Request) (s : State) : Host.Outcome State Fault Refusal :=
  .next (s.serve 0x32 q (changeBody
    (fun s => tableChecks (hasLength q 1) s
      [(decide (u8 q.payload 0 < 96), .badValue), ((s.cueOf (cueField q)).state != .empty, .noSuch)])
    (fun s => s.deleteCue (cueField q))))

/-- The CUE-READ data of a cue from part `i` on (R106, R188). -/
def State.cueData (s : State) (c : Fin 96) (i : Nat) : List Byte :=
  let k := s.cueOf c
  [cueStateCode k.state, byteOf k.declared, byteOf k.parts.length] ++ be16 s.pbu.poolFree ++
  ((k.parts.drop i).take 6).flatMap PartRecord.bytes

/-- CUE-READ (R106). -/
def execCueRead (q : Request) (s : State) : Host.Outcome State Fault Refusal :=
  .next (s.serve 0x33 q (changeBody
    (fun _ => [(hasLength q 2, .badLength), (decide (u8 q.payload 0 < 96), .badValue),
      (decide (u8 q.payload 1 ≤ 63), .badValue)])
    (fun s => (s, .ok (s.cueData (cueField q) (u8 q.payload 1))))))

end Sys2Proof.Machine
end

