-- ==== Sys2Proof/Machine/Clock.lean ====
section
/-! DEFINITION. Show time, the timeline and the lock machine (R117 to R140), with the mark events and the clock and timeline
commands. -/

namespace Sys2Proof.Machine

/-! ### The timeline (R136 to R138) -/

/-- The number of entries whose time is at most `t`: where the cursor stands at show time `t` (R136). -/
def cursorAt (entries : List TimelineEntry) (t : Nat) : Nat := entries.countP fun e => decide (e.time ≤ t)

/-- The cursor moves to a position. -/
def State.setCursor (s : State) (n : Nat) : State := { s with pbu := { s.pbu with cursor := n } }

/-- Show time becomes `t`. -/
def State.setShowTime (s : State) (t : Nat) : State := { s with scu := { s.scu with showTime := t } }

/-- The entries a forward report to `t` hands on (R138). -/
def State.entriesTo (s : State) (t : Nat) : List TimelineEntry :=
  (s.pbu.timeline.drop s.pbu.cursor).takeWhile fun e => decide (e.time ≤ t)

/-- A forward report to `t`: each entry is handed on in timeline order and the cursor passes it (R138). -/
def State.reportForward (s : State) (snapped : Bool) (t : Nat) : State :=
  let due := s.entriesTo t
  (due.foldl (State.fireEntry snapped) s).setCursor (s.pbu.cursor + due.length)

/-- A backward report: nothing fires and the cursor moves back (R138). -/
def State.reportBackward (s : State) (t : Nat) : State := s.setCursor (cursorAt s.pbu.timeline t)

/-! ### Lock machine records -/

/-- The lock machine's records become `l`. -/
def State.setLock (s : State) (l : Lock) : State := { s with scu := { s.scu with lock := l } }

/-- The name of a lock state. -/
def Lock.name : Lock → LockName
  | .search => .search
  | .confirm _ _ => .confirm
  | .locked _ _ _ _ _ => .locked
  | .holdover => .holdover

/-- The scheduled slip, held only in LOCKED. -/
def Lock.slip : Lock → Option Slip
  | .locked _ _ _ _ x => x
  | .search => none
  | .confirm _ _ => none
  | .holdover => none

/-- The lock records with another scheduled slip. -/
def Lock.withSlip (l : Lock) (x : Option Slip) : Lock :=
  match l with
  | .locked m b w c _ => .locked m b w c x
  | .search => .search
  | .confirm m d => .confirm m d
  | .holdover => .holdover

/-- The lock records with another jump candidate. -/
def Lock.withCandidate (l : Lock) (c : Option Mark) : Lock :=
  match l with
  | .locked m b w _ x => .locked m b w c x
  | .search => .search
  | .confirm m d => .confirm m d
  | .holdover => .holdover

/-- A scheduled slip is discarded. -/
def State.discardSlip (s : State) : State := s.setLock (s.scu.lock.withSlip none)

/-- A change of the lock state raises its LOCK notice (section 7.4). -/
def State.enterLock (s : State) (l : Lock) : State := (s.setLock l).raise (.lock l.name)

/-! ### Relocations and jumps (R119, R120) -/

/-- Jump processing to `t` (R120). -/
def State.jumpTo (s : State) (t : Nat) : State :=
  let old := s.scu.showTime
  let s1 := (s.setShowTime t).discardSlip
  let s2 := if old < t then s1.reportForward true t else s1.reportBackward t
  (s2.raise (.jump old t)).count Stats.addJump

/-- The distance between two show times. -/
def showDistance (a b : Nat) : Nat := ((a : Int) - b).natAbs

/-- A relocation to `t`: a jump where it reaches J, else a plain relocation (R119). -/
def State.relocate (s : State) (t : Nat) : State :=
  let old := s.scu.showTime
  if s.scu.jumpThreshold ≤ showDistance t old then s.jumpTo t
  else
    let s1 := (s.setShowTime t).discardSlip
    if old < t then s1.reportForward false t else if t < old then s1.reportBackward t else s1

/-- The run state is set, with a RUN notice when it changes (R118). -/
def State.setRunning (s : State) (r : Bool) : State :=
  if s.scu.running = r then s else ({ s with scu := { s.scu with running := r } } : State).raise (.run r)

/-! ### The lock machine (R122 to R132) -/

/-- The new mark is consistent with its base (R122). -/
def consistent (base m : Mark) : Bool :=
  let elapsed := since m.arrival base.arrival
  let tb : Int := base.time
  let t : Int := m.time
  let tol := Config.markTolerance
  let low := if base.run && m.run then tb + elapsed - tol else tb - tol
  let high := if !base.run && !m.run then tb + tol else tb + elapsed + tol
  decide (low ≤ t) && decide (t ≤ high)

/-- The slip decision for error `e` of mark `m` (R132). -/
def State.slipDecision (s : State) (m : Mark) (e : Int) : State :=
  let p : Int := s.scu.period
  let j : Int := s.scu.jumpThreshold
  if j ≤ e.natAbs then s.setLock (s.scu.lock.withCandidate (some m))
  else if p ≤ e then s.setLock (s.scu.lock.withSlip (some { skip := true, error := e }))
  else if e ≤ -p then s.setLock (s.scu.lock.withSlip (some { skip := false, error := e }))
  else s.discardSlip

/-- The action of a consistent mark of LOCKED by its RUN flag and the run state (R131). -/
def State.actOnMark (s : State) (m : Mark) : State :=
  match m.run, s.scu.running with
  | true, true => s.slipDecision m ((m.time : Int) - s.scu.showTime)
  | true, false => (s.setRunning true).relocate m.time
  | false, true => ((s.setRunning false).relocate m.time).discardSlip
  | false, false => s.relocate m.time

/-- The deadline 3·I after an arrival (R123, R125, R126). -/
def State.deadlineAfter (s : State) (arrival : LocalTime) : LocalTime := laterBy arrival (3 * s.scu.markInterval)

/-- Entry to LOCKED with the confirming mark (R125). -/
def State.enterLocked (s : State) (m : Mark) : State :=
  let s1 := s.enterLock (.locked m 0 (s.deadlineAfter m.arrival) none none)
  let s2 := if s1.scu.jumpThreshold ≤ showDistance m.time s1.scu.showTime then s1.jumpTo m.time else s1
  s2.actOnMark m

/-- A bad, inconsistent or missing mark of LOCKED: `bad` marks are counted now, the third ends the lock (R128). -/
def State.countBad (s : State) (reference : Mark) (bad : Nat) (watch : LocalTime) (candidate : Option Mark)
    (slip : Option Slip) : State :=
  if Config.badLimit ≤ bad then s.enterLock .holdover else s.setLock (.locked reference bad watch candidate slip)

/-- A valid mark in LOCKED, cases 1 to 3 of R127; it sets the watch deadline first (R126). -/
def State.lockedMark (s : State) (m reference : Mark) (bad : Nat) (candidate : Option Mark) (slip : Option Slip) : State :=
  let watch := s.deadlineAfter m.arrival
  if candidate.any fun c => consistent c m then
    ((s.setLock (.locked m 0 watch none slip)).jumpTo m.time).actOnMark m
  else if consistent reference m then (s.setLock (.locked m 0 watch none slip)).actOnMark m
  else s.countBad reference (bad + 1) watch (some m) slip

/-- The lock machine takes a valid mark (R123, R124, R127, R129). -/
def State.takeMark (s : State) (m : Mark) : State :=
  match s.scu.lock with
  | .search => s.enterLock (.confirm m (s.deadlineAfter m.arrival))
  | .holdover => s.enterLock (.confirm m (s.deadlineAfter m.arrival))
  | .confirm r _ =>
    if consistent r m then s.enterLocked m else s.setLock (.confirm m (s.deadlineAfter m.arrival))
  | .locked r bad _ c x => s.lockedMark m r bad c x

/-- The lock machine takes a failed mark that arrives now (R126). -/
def State.takeFailedMark (s : State) : State :=
  match s.scu.lock with
  | .locked r bad _ c x => s.countBad r (bad + 1) (s.deadlineAfter s.localClock) c x
  | .search => s
  | .confirm _ _ => s
  | .holdover => s

/-! ### The mark receiver (R121) -/

/-- The sum of a mark: its six body bytes modulo 256 (R121). -/
def markSum (body : List Byte) : Byte := body.foldl (· + ·) 0

/-- A complete mark with these six body bytes arrives now (R121). -/
def State.completeMark (s : State) (body : List Byte) : State :=
  let t := u32 body 1
  if markSum body = 0 ∧ t ≤ Config.dayEnd then
    (s.count Stats.addValidMark).takeMark { time := t, run := u8 body 0 % 2 == 1, arrival := s.localClock }
  else (s.count Stats.addBadMark).takeFailedMark

/-- The mark receiver becomes `r`. -/
def State.setMarkReceiver (s : State) (r : MarkReceiver) : State := { s with scu := { s.scu with receiver := r } }

/-- The mark being collected is abandoned and counted bad (R121). -/
def State.abandonMark (s : State) : State := (s.setMarkReceiver .hunting).count Stats.addBadMark

/-- A mark being collected is abandoned when more than 2 ms have passed without a byte (R121). -/
def State.checkMarkGap (s : State) : State :=
  match s.scu.receiver with
  | .hunting => s
  | .collecting _ last => if last + Config.markGapUs < s.scu.timeUs then s.abandonMark else s

/-- A byte that arrives now is taken by the receiver (R121). -/
def State.takeSyncByte (s : State) (b : Byte) : State :=
  match s.scu.receiver with
  | .hunting => if b = 0xA7 then s.setMarkReceiver (.collecting [] s.scu.timeUs) else s
  | .collecting body _ =>
    if body.length < 5 then s.setMarkReceiver (.collecting (body ++ [b]) s.scu.timeUs)
    else (s.setMarkReceiver .hunting).completeMark (body ++ [b])

/-- A byte arrives on the sync line (R121). -/
def State.syncByte (s : State) (b : Byte) : State := s.checkMarkGap.takeSyncByte b

/-- MARK_RECEIVED: bytes arrive on the sync line (R121). -/
def execMarkReceived (bytes : List Byte) (s : State) : Host.Outcome State Fault Refusal := .next (bytes.foldl State.syncByte s)

/-- MARK_ABANDONED: a mark being collected is abandoned and counted bad; while hunting nothing is abandoned (R121). -/
def execMarkAbandoned (s : State) : Host.Outcome State Fault Refusal :=
  match s.scu.receiver with
  | .hunting => .next s
  | .collecting _ _ => .next s.abandonMark

/-- CONFIRM_DEADLINE: the confirm deadline passes, and CONFIRM returns to SEARCH (R124). -/
def execConfirmDeadline (s : State) : Host.Outcome State Fault Refusal :=
  match s.scu.lock with
  | .confirm _ d => .next ((s.advanceTo (s.usOf d)).enterLock .search)
  | .search => .next s
  | .locked _ _ _ _ _ => .next s
  | .holdover => .next s

/-- WATCH_DEADLINE: the watch deadline passes; one mark is counted missing and the deadline moves on by I (R126). -/
def execWatchDeadline (s : State) : Host.Outcome State Fault Refusal :=
  match s.scu.lock with
  | .locked r bad w c x => .next ((s.advanceTo (s.usOf w)).countBad r (bad + 1) (laterBy w s.scu.markInterval) c x)
  | .search => .next s
  | .confirm _ _ => .next s
  | .holdover => .next s

/-! ### Clock requests (R133 to R135) -/

/-- A run state field. -/
def showTimeData (s : State) : List Byte := be32 s.scu.showTime ++ [boolByte s.scu.running]

/-- The lock machine is in LOCKED. -/
def Lock.isLocked : Lock → Bool
  | .locked _ _ _ _ _ => true
  | .search => false
  | .confirm _ _ => false
  | .holdover => false

/-- The effect of an accepted SHOW-TIME (R133). -/
def State.setClock (s : State) (t : Nat) (run : Bool) : State × Answer :=
  let s1 := (s.jumpTo t).setRunning run
  (s1, .ok (showTimeData s1))

/-- SHOW-TIME (R133). -/
def execShowTime (q : Request) (s : State) : Host.Outcome State Fault Refusal :=
  .next (s.serve 0x38 q (changeBody
    (fun s => [(hasLength q 5, .badLength), (decide (u32 q.payload 0 ≤ Config.dayEnd), .badValue),
      (decide (u8 q.payload 4 < 2), .badValue), (!s.scu.lock.isLocked, .inUse)])
    (fun s => s.setClock (u32 q.payload 0) (u8 q.payload 4 == 1))))

/-- The effect of an accepted CLOCK-SET (R134). -/
def State.setClockSettings (s : State) (p i j : Nat) : State × Answer :=
  ({ s with scu := { s.scu with
      waiting := if p = s.scu.period then none else some p, markInterval := i, jumpThreshold := j } }, .ok [])

/-- CLOCK-SET (R134). -/
def execClockSet (q : Request) (s : State) : Host.Outcome State Fault Refusal :=
  let p := u8 q.payload 0
  let i := u8 q.payload 1
  let j := u16 q.payload 2
  .next (s.serve 0x39 q (changeBody
    (fun s => tableChecks (hasLength q 4) s
      [([2, 4, 5, 8, 10].contains p, .badValue), (decide (10 ≤ i ∧ i ≤ 100), .badValue),
       (decide (20 ≤ j ∧ j ≤ 10000), .badValue)])
    (fun s => s.setClockSettings p i j)))

/-- The bad count, 0 outside LOCKED (R135). -/
def Lock.badCount : Lock → Nat
  | .locked _ b _ _ _ => b
  | .search => 0
  | .confirm _ _ => 0
  | .holdover => 0

/-- Whether a jump candidate is held (R135). -/
def Lock.hasCandidate : Lock → Bool
  | .locked _ _ _ c _ => c.isSome
  | .search => false
  | .confirm _ _ => false
  | .holdover => false

/-- The scheduled slip code (Table 32). -/
def slipCode : Option Slip → Byte
  | none => 0
  | some x => if x.skip then 1 else 2

/-- The CLOCK-QUERY data (Table 35). -/
def State.clockData (s : State) : List Byte :=
  wordBytes s.localClock ++ be32 s.scu.showTime ++
  [boolByte s.scu.running, lockCode s.scu.lock.name, byteOf s.scu.period, byteOf (s.scu.waiting.getD 0),
    byteOf s.scu.markInterval] ++ be16 s.scu.jumpThreshold ++
  [byteOf s.scu.lock.badCount, boolByte s.scu.lock.hasCandidate, slipCode s.scu.lock.slip] ++
  be16 s.pbu.timeline.length ++ be16 s.pbu.cursor

/-- CLOCK-QUERY (R135). -/
def execClockQuery (q : Request) (s : State) : Host.Outcome State Fault Refusal :=
  .next (s.serve 0x3A q (changeBody (fun _ => [(hasLength q 0, .badLength)]) (fun s => (s, .ok s.clockData))))

/-! ### Timeline requests (R139, R140) -/

/-- The effect of an accepted TIMELINE-ADD (R139). -/
def State.addEntry (s : State) (e : TimelineEntry) : State × Answer :=
  let at' := cursorAt s.pbu.timeline e.time
  let entries := s.pbu.timeline.take at' ++ e :: s.pbu.timeline.drop at'
  ({ s with pbu := { s.pbu with
      timeline := entries, cursor := if e.time ≤ s.scu.showTime then s.pbu.cursor + 1 else s.pbu.cursor } },
    .ok (be16 at' ++ be16 entries.length))

/-- The entry a payload gives. -/
def entryField (q : Request) : TimelineEntry := { time := u32 q.payload 0, cue := Fin.ofNat 96 (u8 q.payload 4) }

/-- The checks that TIMELINE-ADD and TIMELINE-REMOVE share (R139, R140), then their own. -/
def timelineChecks (q : Request) (s : State) (own : List (Bool × Status)) : List (Bool × Status) :=
  tableChecks (hasLength q 5) s
    ((decide (u32 q.payload 0 ≤ Config.dayEnd), .badValue) :: (decide (u8 q.payload 4 < 96), .badValue) :: own)

/-- TIMELINE-ADD (R139). -/
def execTimelineAdd (q : Request) (s : State) : Host.Outcome State Fault Refusal :=
  .next (s.serve 0x3B q (changeBody
    (fun s => timelineChecks q s [(decide (s.pbu.timeline.length < Config.timelineRoom), .full)])
    (fun s => s.addEntry (entryField q))))

/-- The effect of an accepted TIMELINE-REMOVE: the first match goes (R140). -/
def State.removeEntry (s : State) (e : TimelineEntry) : State × Answer :=
  let at' := s.pbu.timeline.findIdx fun x => x == e
  let entries := s.pbu.timeline.eraseIdx at'
  ({ s with pbu := { s.pbu with
      timeline := entries, cursor := if at' < s.pbu.cursor then s.pbu.cursor - 1 else s.pbu.cursor } },
    .ok (be16 at' ++ be16 entries.length))

/-- TIMELINE-REMOVE (R140). -/
def execTimelineRemove (q : Request) (s : State) : Host.Outcome State Fault Refusal :=
  .next (s.serve 0x3C q (changeBody
    (fun s => timelineChecks q s [(s.pbu.timeline.contains (entryField q), .noSuch)])
    (fun s => s.removeEntry (entryField q))))

/-- The TIMELINE-READ data from position `i` on (Table 35). -/
def State.timelineData (s : State) (i : Nat) : List Byte :=
  let l := (s.pbu.timeline.drop i).take 32
  be16 s.pbu.timeline.length ++ be16 s.pbu.cursor ++ [byteOf l.length] ++
  l.flatMap fun e => be32 e.time ++ [byteOf e.cue.val]

/-- TIMELINE-READ (R140). -/
def execTimelineRead (q : Request) (s : State) : Host.Outcome State Fault Refusal :=
  .next (s.serve 0x3D q (changeBody
    (fun _ => [(hasLength q 1, .badLength), (decide (u8 q.payload 0 ≤ 255), .badValue)])
    (fun s => (s, .ok (s.timelineData (u8 q.payload 0))))))

end Sys2Proof.Machine
end

