-- ==== Sys2Proof/Machine/Lines.lean ====
section
/-! DEFINITION. Fixture lines: modes and faults (R158 to R161, R169), frames (R166 to R168), and the line commands. -/

namespace Sys2Proof.Machine

/-! ### Footprints on a line (R8) -/

/-- A footprint of `f` slots from `start` fits frame length `n` with check slot `check` (R8). -/
def footprintFits (start f n : Nat) (check : CheckSlot) : Bool :=
  decide (start + f - 1 ≤ match check with | .none => n | .xor => n - 1 | .sum => n - 1)

/-- Two slot ranges share at least one slot (R8). -/
def slotsOverlap (s1 f1 s2 f2 : Nat) : Bool := decide (s1 < s2 + f2) && decide (s2 < s1 + f1)

/-- The defined fixtures on a line. -/
def State.fixturesOn (s : State) (l : Fin 8) : List (Fin 128) := s.fixturesWhere fun f => f.config.line == l

/-- A defined fixture owns slot `slot` of line `l`. -/
def State.ownsSlot (s : State) (l : Fin 8) (slot : Nat) : Bool :=
  (List.finRange 128).any fun i => (s.fixture? i).any fun f =>
    f.config.line == l && decide (f.config.start ≤ slot) && decide (slot < f.config.start + s.footprint f.config)

/-! ### Modes and faults -/

/-- The mode an armed mode stands for. -/
def ArmedMode.mode : ArmedMode → LineMode
  | .off => .off
  | .frame => .frame
  | .pin => .pin

/-- The line in FAULT: the driver is disabled, a frame in progress is ended unsent, and the entry is counted (R169). -/
def Line.faulted (l : Line) : Line := { l with mode := .fault, frame := none, faults := l.faults + 1 }

/-- Line `l` enters FAULT with its LINE-FAULT notice (R169). -/
def State.enterFault (s : State) (l : Fin 8) : State := (s.modifyLine l Line.faulted).raise (.lineFault l)

/-- The armed mode, put in force while the fault input is asserted, is FRAME or PIN, so that the line enters FAULT (R161). -/
def Line.meetsFault (l : Line) : Bool := l.faultInput && l.armed != .off

/-- The line takes its armed mode and meets its fault input (R158, R161). -/
def State.settleLine (s : State) (l : Fin 8) : State :=
  if s.lnu[l].meetsFault then s.enterFault l else s.modifyLine l fun x => { x with mode := x.armed.mode }

/-- The four re-arming events of R158: the mode is set to the armed mode, then the line meets its fault input. -/
def State.rearmLine (s : State) (l : Fin 8) : State :=
  (s.modifyLine l fun x => { x with mode := x.armed.mode }).settleLine l

/-- Every line is re-armed (R158). -/
def State.rearmLines (s : State) : State := (List.finRange 8).foldl State.rearmLine s

/-- FAULT_INPUT_ASSERTED: the input is asserted, and a line in FRAME or PIN enters FAULT (R169). -/
def execFaultInputAsserted (l : Fin 8) (s : State) : Host.Outcome State Fault Refusal :=
  let s1 := s.modifyLine l fun x => { x with faultInput := true }
  match s.lnu[l].mode with
  | .frame => .next (s1.enterFault l)
  | .pin => .next (s1.enterFault l)
  | .off => .next s1
  | .fault => .next s1

/-- FAULT_INPUT_RELEASED: the input is released; a line in FAULT stays there (R169). -/
def execFaultInputReleased (l : Fin 8) (s : State) : Host.Outcome State Fault Refusal :=
  .next (s.modifyLine l fun x => { x with faultInput := false })

/-! ### Frames (R166 to R168) -/

/-- The time in microseconds of a frame of length `n` (R166). -/
def frameTime (n : Nat) : Nat := 100 + 12 + (n + 1) * 44

/-- The frame a line starts at time `t`, with what it latches (R167). -/
def Line.latch (l : Line) (t : Nat) : Frame :=
  { length := l.length, startCode := l.startCode, check := l.check, includeStart := l.includeStart,
    values := readSlots l.latest 0 l.length, startUs := t }

/-- The check value of a frame (R168), none with check slot NONE. -/
def Frame.checkValue (f : Frame) : Option Byte :=
  let taken := (if f.includeStart then [f.startCode] else []) ++ f.values.take (f.length - 1)
  match f.check with
  | .none => none
  | .xor => some (taken.foldl (· ^^^ ·) 0)
  | .sum => some (taken.foldl (· + ·) 0)

/-- The data slots 1..N as a frame sends them: the check value stands in slot N (R167, R168). -/
def Frame.sent (f : Frame) : List Byte :=
  match f.checkValue with
  | none => f.values
  | some c => f.values.take (f.length - 1) ++ [c]

/-- One slot on the line: a start bit, eight data bits least significant first, two stop bits, 4 µs each (R166). -/
def slotLevels (b : Byte) : List (Bool × Nat) :=
  (false, 4) :: ((List.range 8).map fun i => (b.getLsbD i, 4)) ++ [(true, 4), (true, 4)]

/-- A frame on the line as levels with their durations in µs: break, mark-after-break, start code slot, data slots (R166). -/
def Frame.levels (f : Frame) : List (Bool × Nat) :=
  (false, 100) :: (true, 12) :: (f.startCode :: f.sent).flatMap slotLevels

/-- The line's driver is enabled in every mode but FAULT (R159). -/
def Line.driverEnabled (l : Line) : Bool := l.mode != .fault

/-- The level a line holds between frames: the pin level in PIN, mark otherwise (R159). -/
def Line.idleLevel (l : Line) : Bool := match l.mode with | .pin => l.pinHigh | .off => true | .frame => true | .fault => true

/-- The earliest time in microseconds at which the line's interval lets a frame start (R166). -/
def Line.frameDue (l : Line) (now : Nat) : Nat := match l.lastStart with | none => now | some t => t + l.minInterval * 1000

/-- The line may start a frame: FRAME mode, no frame in progress (R166). -/
def Line.mayStart (l : Line) : Bool := l.mode == .frame && l.frame.isNone

/-- The line with a frame started at time `t` (R166, R167). -/
def Line.started (l : Line) (t : Nat) : Line := { l with frame := some (l.latch t), lastStart := some t }

/-- FRAME_START: a line in FRAME with no frame in progress starts one at the earliest moment its interval lets it (R166). -/
def execFrameStart (l : Fin 8) (s : State) : Host.Outcome State Fault Refusal :=
  if s.lnu[l].mayStart then
    (let s1 := s.advanceTo (s.lnu[l].frameDue s.scu.timeUs)
     .next (s1.modifyLine l fun x => x.started s1.scu.timeUs))
  else .next s

/-- The frame of line `l` has been sent in full: it is counted, and the line takes its armed mode (R161, R171). -/
def State.endFrame (s : State) (l : Fin 8) (f : Frame) : State :=
  (((s.advanceTo (f.startUs + frameTime f.length)).modifyLine l fun x =>
    { x with frame := none, framesSent := x.framesSent + 1 }).settleLine l)

/-- FRAME_SENT: the last slot of a line's frame is sent (R161, R171). -/
def execFrameSent (l : Fin 8) (s : State) : Host.Outcome State Fault Refusal :=
  match s.lnu[l].frame with
  | some f => .next (s.endFrame l f)
  | none => .next s

/-! ### Line requests -/

/-- The line a payload names. -/
def lineField (q : Request) : Fin 8 := Fin.ofNat 8 (u8 q.payload 0)

/-- The settings of a LINE-SET written into a line (R160). -/
def Line.withSettings (l : Line) (p : List Byte) : Line :=
  { l with
    armed := armedOf (u8 p 1), length := u16 p 2, startCode := p.getD 4 0, check := checkOf (u8 p 5)
    includeStart := u8 p 6 == 1, minInterval := u16 p 7 }

/-- The effect of an accepted LINE-SET: settings, then R161 at once unless a frame is in progress. -/
def State.setLine (s : State) (l : Fin 8) (p : List Byte) : State × Answer :=
  let s1 := s.modifyLine l fun x => x.withSettings p
  let s2 := if s.lnu[l].frame.isSome then s1 else s1.settleLine l
  (s2, .ok [lineModeCode s2.lnu[l].mode])

/-- Check 7 of R160: every footprint on the line fits the new N and check slot. -/
def State.footprintsFit (s : State) (l : Fin 8) (n : Nat) (check : CheckSlot) : Bool :=
  (s.fixturesOn l).all fun i =>
    (s.fixture? i).all fun f => footprintFits f.config.start (s.footprint f.config) n check

/-- LINE-SET (R160, R161). -/
def execLineSet (q : Request) (s : State) : Host.Outcome State Fault Refusal :=
  let p := q.payload
  let l := lineField q
  .next (s.serve 0x50 q (changeBody
    (fun s => tableChecks (hasLength q 9) s
      [(decide (u8 p 0 < 8), .badValue), (decide (u8 p 1 < 3), .badValue), (decide (24 ≤ u16 p 2 ∧ u16 p 2 ≤ 512), .badValue),
       (decide (u8 p 5 < 3 ∧ u8 p 6 < 2), .badValue), (decide (1 ≤ u16 p 7 ∧ u16 p 7 ≤ 1000), .badValue),
       ((s.fixturesOn l).isEmpty || u8 p 1 == 1, .inUse), (s.footprintsFit l (u16 p 2) (checkOf (u8 p 5)), .inUse)])
    (fun s => s.setLine l p)))

/-- LINE-PIN (R162). -/
def execLinePin (q : Request) (s : State) : Host.Outcome State Fault Refusal :=
  let p := q.payload
  .next (s.serve 0x51 q (changeBody
    (fun s => tableChecks (hasLength q 2) s [(decide (u8 p 0 < 8), .badValue), (decide (u8 p 1 < 2), .badValue)])
    (fun s => (s.modifyLine (lineField q) fun x => { x with pinHigh := u8 p 1 == 1 }, .ok []))))

/-- Each listed value goes into the next image at its slot unless a fixture owns the slot (R163). -/
def writeUnowned (owned : Nat → Bool) (img : Vector Byte 512) (slot : Nat) : List Byte → Vector Byte 512
  | [] => img
  | b :: rest => writeUnowned owned (if owned slot then img else img.setIfInBounds (slot - 1) b) (slot + 1) rest

/-- The effect of an accepted LINE-STATIC (R163). -/
def State.setLineStatics (s : State) (l : Fin 8) (slot : Nat) (values : List Byte) : State :=
  s.modifyLine l fun x =>
    { x with
      statics := writeSlots x.statics (slot - 1) values
      next := writeUnowned (s.ownsSlot l) x.next slot values }

/-- LINE-STATIC (R163). -/
def execLineStatic (q : Request) (s : State) : Host.Outcome State Fault Refusal :=
  let p := q.payload
  let slot := u16 p 1
  let n := u8 p 3
  .next (s.serve 0x52 q (changeBody
    (fun s => tableChecks (hasCountedLength q 4 3 1) s
      [(decide (u8 p 0 < 8), .badValue), (decide (1 ≤ slot ∧ slot ≤ 512), .badValue), (decide (1 ≤ n ∧ n ≤ 200), .badValue),
       (decide (slot + n - 1 ≤ 512), .badValue)])
    (fun s => (s.setLineStatics (lineField q) slot (p.drop 4), .ok []))))

/-- The LINE-QUERY data of a line with `n` fixtures (Table 35). -/
def Line.queryData (l : Line) (n : Nat) : List Byte :=
  [lineModeCode l.mode, armedCode l.armed] ++ be16 l.length ++ [l.startCode, checkCode l.check, boolByte l.includeStart] ++
  be16 l.minInterval ++ [boolByte l.pinHigh, boolByte l.faultInput, boolByte l.frame.isSome, byteOf n] ++
  wordBytes l.framesSent ++ wordBytes l.faults

/-- LINE-QUERY (R172). -/
def execLineQuery (q : Request) (s : State) : Host.Outcome State Fault Refusal :=
  .next (s.serve 0x53 q (changeBody
    (fun _ => [(hasLength q 1, .badLength), (decide (u8 q.payload 0 < 8), .badValue)])
    (fun s => (s, .ok (s.lnu[lineField q].queryData (s.fixturesOn (lineField q)).length)))))

/-- LINE-IMAGE (R172). -/
def execLineImage (q : Request) (s : State) : Host.Outcome State Fault Refusal :=
  let p := q.payload
  let slot := u16 p 1
  let n := u8 p 3
  .next (s.serve 0x54 q (changeBody
    (fun _ => [(hasLength q 5, .badLength), (decide (u8 p 0 < 8), .badValue), (decide (1 ≤ slot ∧ slot ≤ 512), .badValue),
      (decide (1 ≤ n ∧ n ≤ 200), .badValue), (decide (slot + n - 1 ≤ 512), .badValue), (decide (u8 p 4 < 2), .badValue)])
    (fun s =>
      (s, .ok (readSlots (if u8 p 4 = 0 then s.lnu[lineField q].latest else s.lnu[lineField q].statics) (slot - 1) n)))))

end Sys2Proof.Machine
end

