-- ==== Sys2Proof/Machine/Tables.lean ====
section
/-! DEFINITION. The table commands of the FXE: profiles (R4, R5), fixtures (R7 to R11), groups (R12), zones (R66, R67) and
the table reads (R14). -/

namespace Sys2Proof.Machine

/-! ### Profiles -/

/-- The thirteen offset bytes of a PROFILE-LOAD payload. -/
def offsetBytes (p : List Byte) : List Nat := (List.range 13).map fun i => u8 p (2 + i)

/-- The mandatory offsets: pan, tilt, red, green and blue coarse. -/
def mandatoryOffsets (p : List Byte) : List Nat := [u8 p 2, u8 p 4, u8 p 6, u8 p 8, u8 p 10]

/-- The offsets that are present. -/
def presentOffsets (p : List Byte) : List Nat := (offsetBytes p).filter fun o => o != 255

/-- A mechanical range: lo < hi, both within two turns (R4). -/
def rangeOk (lo hi : Int) : Bool := decide (lo < hi) && angleOk lo && angleOk hi

/-- Profile `n` becomes `p`. -/
def State.setProfile (s : State) (n : Fin 16) (p : Option Profile) : State :=
  { s with fxe := { s.fxe with profiles := s.fxe.profiles.set n p } }

/-- The profile a payload names. -/
def profileField (q : Request) : Fin 16 := Fin.ofNat 16 (u8 q.payload 0)

/-- The checks of R4 in their order. -/
def profileChecks (q : Request) (s : State) : List (Bool × Status) :=
  let p := q.payload
  let f := u8 p 1
  tableChecks (hasCountedLength q 76 1 1) s
    [(decide (u8 p 0 < 16), .badValue), (!s.profileInUse (u8 p 0), .inUse), (decide (1 ≤ f ∧ f ≤ 48), .badValue),
     ((presentOffsets p).all (fun o => decide (o < f)) && (mandatoryOffsets p).all (fun o => o != 255), .badValue),
     (decide (presentOffsets p).Nodup, .badValue), (u8 p 12 != 255 || u8 p 13 == 255, .badValue),
     (rangeOk (i32 p 16) (i32 p 20) && rangeOk (i32 p 24) (i32 p 28), .badValue),
     (([u32 p 32, u32 p 36].all fun v => decide (1 ≤ v ∧ v ≤ 1048576)) &&
       ([u32 p 40, u32 p 44].all fun v => decide (1 ≤ v ∧ v ≤ 16777216)), .badValue),
     (u8 p 12 == 255 || [u16 p 66, u16 p 68, u16 p 70].all (fun v => decide (1 ≤ v)), .badValue),
     (decide (u8 p 74 < 2 ∧ u8 p 75 < 2), .badValue)]

/-- PROFILE-LOAD (R4). -/
def execProfileLoad (q : Request) (s : State) : Host.Outcome State Fault Refusal :=
  .next (s.serve 0x10 q (changeBody (profileChecks q)
    (fun s => (s.setProfile (profileField q) (some (profileOf (q.payload.drop 1))), .ok []))))

/-- PROFILE-REMOVE (R5). -/
def execProfileRemove (q : Request) (s : State) : Host.Outcome State Fault Refusal :=
  .next (s.serve 0x11 q (changeBody
    (fun s => tableChecks (hasLength q 1) s
      [(decide (u8 q.payload 0 < 16), .badValue), ((s.fxe.profiles[profileField q]).isSome, .noSuch),
       (!s.profileInUse (u8 q.payload 0), .inUse)])
    (fun s => (s.setProfile (profileField q) none, .ok []))))

/-- PROFILE-READ (R14). -/
def execProfileRead (q : Request) (s : State) : Host.Outcome State Fault Refusal :=
  .next (s.serve 0x12 q (changeBody
    (fun s => [(hasLength q 1, .badLength), (decide (u8 q.payload 0 < 16), .badValue),
      ((s.fxe.profiles[profileField q]).isSome, .noSuch)])
    (fun s => (s, .ok (((s.fxe.profiles[profileField q]).map Profile.bytes).getD [])))))

/-! ### Fixtures -/

/-- The fixture a payload names. -/
def fixtureField (q : Request) : Fin 128 := Fin.ofNat 128 (u8 q.payload 0)

/-- A footprint of `f` slots from `start` on `line` overlaps another defined fixture than `i` (R8). -/
def State.overlapsOther (s : State) (i : Fin 128) (line : Fin 8) (start f : Nat) : Bool :=
  (List.finRange 128).any fun j => j != i && (s.fixture? j).any fun g =>
    g.config.line == line && slotsOverlap start f g.config.start (s.footprint g.config)

/-- The checks of R7 in their order, for the configuration a payload gives. -/
def defineChecks (q : Request) (s : State) : List (Bool × Status) :=
  let p := q.payload
  let c := configOf (p.drop 1)
  let prof := s.profileOf c
  let l := s.lnu[c.line]
  tableChecks (hasLength q 48) s
    [(decide (u8 p 0 < 128 ∧ u8 p 1 < 8 ∧ u8 p 4 < 16), .badValue), (decide (1 ≤ c.start ∧ c.start ≤ 512), .badValue),
     (c.mount.onStage, .badValue), (decide (u8 p 17 < 2) && angleOk c.yaw, .badValue),
     ((s.fxe.profiles[c.profile]).isSome, .noSuch), (l.mode == .frame, .noSuch),
     (decide (c.panWindow.lo ≤ c.panWindow.hi ∧ c.tiltWindow.lo ≤ c.tiltWindow.hi ∧ prof.panRange.lo ≤ c.panWindow.lo ∧
       c.panWindow.hi ≤ prof.panRange.hi ∧ prof.tiltRange.lo ≤ c.tiltWindow.lo ∧ c.tiltWindow.hi ≤ prof.tiltRange.hi), .badValue),
     (decide (c.panWindow.lo ≤ c.park.pan ∧ c.park.pan ≤ c.panWindow.hi ∧ c.tiltWindow.lo ≤ c.park.tilt ∧
       c.park.tilt ≤ c.tiltWindow.hi), .badValue),
     (footprintFits c.start prof.footprint l.length l.check, .badValue),
     (!s.overlapsOther (fixtureField q) c.line c.start prof.footprint, .overlap)]

/-- The fixture an accepted FIXTURE-DEFINE defines (R9). -/
def State.newFixture (s : State) (i : Fin 128) (c : FixtureConfig) : Fixture :=
  s.resetFixture
    { config := c, groups := ((s.fixture? i).map Fixture.groups).getD 0, statics := (s.profileOf c).defaults
      run := resetRuntime c (s.profileOf c) s.localClock }

/-- The effect of an accepted FIXTURE-DEFINE (R9). -/
def State.defineFixture (s : State) (i : Fin 128) (c : FixtureConfig) : State :=
  let f := s.newFixture i c
  let s1 := (s.fixture? i).elim s fun old => s.clearFootprint old.config
  (s1.setFixture i (some f)).writeStatics f

/-- FIXTURE-DEFINE (R7 to R9). -/
def execFixtureDefine (q : Request) (s : State) : Host.Outcome State Fault Refusal :=
  .next (s.serve 0x13 q (changeBody (defineChecks q)
    (fun s => (s.defineFixture (fixtureField q) (configOf (q.payload.drop 1)), .ok []))))

/-- The effect of an accepted FIXTURE-REMOVE (R10). -/
def State.removeFixture (s : State) (i : Fin 128) : State :=
  ((s.fixture? i).elim s fun f => s.clearFootprint f.config).setFixture i none

/-- The checks of a request that names one defined fixture. -/
def fixtureChecks (q : Request) (s : State) : List (Bool × Status) :=
  [(decide (u8 q.payload 0 < 128), .badValue), (s.isDefined (u8 q.payload 0), .noSuch)]

/-- FIXTURE-REMOVE (R10). -/
def execFixtureRemove (q : Request) (s : State) : Host.Outcome State Fault Refusal :=
  .next (s.serve 0x14 q (changeBody
    (fun s => tableChecks (hasLength q 1) s (fixtureChecks q s))
    (fun s => (s.removeFixture (fixtureField q), .ok []))))

/-- The values at their offsets from `o` on go into a list of static slot values (R11). -/
def putStatics (statics : List Byte) (o : Nat) : List Byte → List Byte
  | [] => statics
  | b :: rest => putStatics (statics.set o b) (o + 1) rest

/-- Each value at an offset the slot map does not name goes into the next image at once (R11). -/
def writeUnmapped (mapped : List Nat) (start : Nat) (img : Vector Byte 512) (o : Nat) : List Byte → Vector Byte 512
  | [] => img
  | b :: rest =>
    writeUnmapped mapped start (if mapped.contains o then img else img.setIfInBounds (start + o - 1) b) (o + 1) rest

/-- The effect of an accepted FIXTURE-SLOTS (R11). -/
def State.setFixtureSlots (s : State) (i : Fin 128) (o : Nat) (values : List Byte) : State :=
  match s.fixture? i with
  | none => s
  | some f =>
    (s.setFixture i (some { f with statics := putStatics f.statics o values })).modifyLine f.config.line fun l =>
      { l with next := writeUnmapped (s.profileOf f.config).mapped f.config.start l.next o values }

/-- The footprint size of fixture `i`, 0 while undefined. -/
def State.footprintOf (s : State) (i : Fin 128) : Nat := ((s.fixture? i).map fun f => s.footprint f.config).getD 0

/-- FIXTURE-SLOTS (R11). -/
def execFixtureSlots (q : Request) (s : State) : Host.Outcome State Fault Refusal :=
  let o := u8 q.payload 1
  let n := u8 q.payload 2
  .next (s.serve 0x15 q (changeBody
    (fun s => tableChecks (hasCountedLength q 3 2 1) s
      (fixtureChecks q s ++ [(decide (1 ≤ n ∧ n ≤ 48 ∧ o + n ≤ s.footprintOf (fixtureField q)), .badValue)]))
    (fun s => (s.setFixtureSlots (fixtureField q) o (q.payload.drop 3), .ok []))))

/-- The FIXTURE-READ data of a fixture (Table 35). -/
def Fixture.readData (f : Fixture) : List Byte :=
  f.config.bytes ++ groupBytes f.groups ++ [byteOf f.statics.length] ++ f.statics

/-- FIXTURE-READ (R14). -/
def execFixtureRead (q : Request) (s : State) : Host.Outcome State Fault Refusal :=
  .next (s.serve 0x16 q (changeBody
    (fun s => (hasLength q 1, .badLength) :: fixtureChecks q s)
    (fun s => (s, .ok (((s.fixture? (fixtureField q)).map Fixture.readData).getD [])))))

/-! ### Groups -/

/-- Bit `f` of the member map of GROUP-SET (R186). -/
def memberBit (q : Request) (f : Nat) : Bool := (mapField q.payload 1 16).testBit f

/-- A group set with group `g` added or removed. -/
def withGroup (groups : BitVec 32) (g : Nat) (member : Bool) : BitVec 32 :=
  if member then groups ||| BitVec.twoPow 32 g else groups &&& ~~~(BitVec.twoPow 32 g)

/-- The effect of an accepted GROUP-SET (R12). -/
def State.setGroup (s : State) (g : Nat) (member : Nat → Bool) : State :=
  (List.finRange 128).foldl
    (fun s i => s.modifyFixture i fun f => { f with groups := withGroup f.groups g (member i.val) }) s

/-- GROUP-SET (R12). -/
def execGroupSet (q : Request) (s : State) : Host.Outcome State Fault Refusal :=
  .next (s.serve 0x17 q (changeBody
    (fun s => tableChecks (hasLength q 17) s
      [(decide (u8 q.payload 0 < 32), .badValue),
       ((List.finRange 128).all (fun i => !memberBit q i.val || (s.fixture? i).isSome), .noSuch)])
    (fun s => (s.setGroup (u8 q.payload 0) (memberBit q), .ok []))))

/-- The member map of group `g` as a number: bit f for each defined member f. -/
def State.memberMap (s : State) (g : Nat) : Nat :=
  (s.expand (.group g)).foldl (fun m i => m + 2 ^ i.val) 0

/-- GROUP-READ (R14). -/
def execGroupRead (q : Request) (s : State) : Host.Outcome State Fault Refusal :=
  .next (s.serve 0x18 q (changeBody
    (fun _ => [(hasLength q 1, .badLength), (decide (u8 q.payload 0 < 32), .badValue)])
    (fun s => (s, .ok (mapBytes 16 (s.memberMap (u8 q.payload 0)))))))

/-! ### Zones -/

/-- The zone a payload names. -/
def zoneField (q : Request) : Fin 16 := Fin.ofNat 16 (u8 q.payload 0)

/-- Zone `n` becomes `z`. -/
def State.setZone (s : State) (n : Fin 16) (z : Zone) : State :=
  { s with fxe := { s.fxe with zones := s.fxe.zones.set n z } }

/-- Check 3 of R66: the box lies in the stage ranges. -/
def Zone.onStage (z : Zone) : Bool :=
  Point.onStage ⟨z.x.lo, z.y.lo, z.z.lo⟩ && Point.onStage ⟨z.x.hi, z.y.hi, z.z.hi⟩

/-- ZONE-SET (R66). -/
def execZoneSet (q : Request) (s : State) : Host.Outcome State Fault Refusal :=
  let z := zoneOf (q.payload.drop 1)
  .next (s.serve 0x19 q (changeBody
    (fun s => tableChecks (hasLength q 31) s
      [(decide (u8 q.payload 0 < 16), .badValue), (decide (u8 q.payload 25 < 2 ∧ u8 q.payload 26 < 2), .badValue),
       (z.onStage, .badValue), (decide (z.x.lo ≤ z.x.hi ∧ z.y.lo ≤ z.y.hi ∧ z.z.lo ≤ z.z.hi), .badValue)])
    (fun s => (s.setZone (zoneField q) z, .ok []))))

/-- ZONE-READ (R67). -/
def execZoneRead (q : Request) (s : State) : Host.Outcome State Fault Refusal :=
  .next (s.serve 0x1A q (changeBody
    (fun _ => [(hasLength q 1, .badLength), (decide (u8 q.payload 0 < 16), .badValue)])
    (fun s => (s, .ok (s.fxe.zones[zoneField q]).bytes))))

end Sys2Proof.Machine
end

