-- ==== Sys2Proof/Machine/Direct.lean ====
section
/-! DEFINITION. The direct requests AIM, TINT and LEVEL (R38 to R41), the overrides PARK, STOP, DOUSE and RELEASE (R42 to
R46), and FIXTURE-QUERY (R47). -/

namespace Sys2Proof.Machine

/-- The index a selector names defines something: only a FIXTURE selector can fail (R38). -/
def State.selectorDefined (s : State) : Selector → Bool
  | .fixture f => s.isDefined f
  | .group _ => true
  | .all => true

/-- The length check and the selector checks of R38. -/
def selectorChecks (q : Request) (length : Nat) (s : State) (own : List (Bool × Status)) : List (Bool × Status) :=
  (hasLength q length, .badLength) :: ((selectorField q.payload).isSome, .badValue) ::
    ((selectorField q.payload).all s.selectorDefined, .noSuch) :: own

/-- The fixtures the selector of a payload expands to (R13). -/
def State.selected (s : State) (q : Request) : List (Fin 128) := ((selectorField q.payload).map s.expand).getD []

/-- Each selected fixture is changed by `f`; the answer is OK with their number. -/
def State.changeSelected (s : State) (q : Request) (f : Fixture → Fixture) : State × Answer :=
  (s.modifyFixtures (s.selected q) f, .ok [byteOf (s.selected q).length])

/-! ### AIM, TINT and LEVEL -/

/-- AIM (R38, R39). -/
def execAim (q : Request) (s : State) : Host.Outcome State Fault Refusal :=
  let p := q.payload
  .next (s.serve 0x20 q (changeBody
    (fun s => selectorChecks q 20 s [(decide (u8 p 19 < 2), .badValue), ((aimField p 2).isSome, .badValue)])
    (fun s => s.changeSelected q fun f =>
      f.startAim .direct (.onLocal s.localClock) ((aimField p 2).getD (.angles ⟨0, 0⟩)) (u32 p 15) (shapeOf (u8 p 19)))))

/-- The colour a TINT carries (R40). -/
def tintField (p : List Byte) : ColourTarget :=
  { r := u16 p 2, g := u16 p 4, b := u16 p 6, wmix := if u8 p 8 = 1 then none else some (u16 p 9) }

/-- TINT (R38, R40). -/
def execTint (q : Request) (s : State) : Host.Outcome State Fault Refusal :=
  let p := q.payload
  .next (s.serve 0x21 q (changeBody
    (fun s => selectorChecks q 16 s [(decide (u8 p 15 < 2), .badValue), (decide (u8 p 8 < 2), .badValue)])
    (fun s => s.changeSelected q fun f =>
      f.startColour (s.profileOf f.config) .direct (.onLocal s.localClock) (tintField p) (u32 p 11) (shapeOf (u8 p 15)))))

/-- LEVEL (R38, R41). -/
def execLevel (q : Request) (s : State) : Host.Outcome State Fault Refusal :=
  let p := q.payload
  .next (s.serve 0x22 q (changeBody
    (fun s => selectorChecks q 9 s [(decide (u8 p 8 < 2), .badValue)])
    (fun s => s.changeSelected q fun f =>
      f.startLevel .direct (.onLocal s.localClock) (u16 p 2) (u32 p 4) (shapeOf (u8 p 8)))))

/-! ### Overrides -/

/-- PARKED is set (R42). -/
def Fixture.park (f : Fixture) : Fixture := { f with run := { f.run with parked := true } }

/-- STOPPED is set with the commanded angles as stop angles, and both commanded velocities become 0 (R43). -/
def Fixture.stop (f : Fixture) : Fixture :=
  { f with run := { f.run with stopped := some f.run.commanded, velocity := { pan := 0, tilt := 0 } } }

/-- DOUSED is set (R44). -/
def Fixture.douse (f : Fixture) : Fixture := { f with run := { f.run with doused := true } }

/-- A release kind's override is cleared: 0 PARK, 1 STOP, 2 DOUSE, 3 all three (R45). -/
def Fixture.release (kind : Nat) (f : Fixture) : Fixture :=
  { f with run := { f.run with
      parked := f.run.parked && !(kind == 0 || kind == 3)
      stopped := if kind == 1 || kind == 3 then none else f.run.stopped
      doused := f.run.doused && !(kind == 2 || kind == 3) } }

/-- PARK (R42). -/
def execPark (q : Request) (s : State) : Host.Outcome State Fault Refusal :=
  .next (s.serve 0x28 q (changeBody (fun s => selectorChecks q 2 s []) (fun s => s.changeSelected q Fixture.park)))

/-- STOP (R43). -/
def execStop (q : Request) (s : State) : Host.Outcome State Fault Refusal :=
  .next (s.serve 0x29 q (changeBody (fun s => selectorChecks q 2 s []) (fun s => s.changeSelected q Fixture.stop)))

/-- DOUSE (R44). -/
def execDouse (q : Request) (s : State) : Host.Outcome State Fault Refusal :=
  .next (s.serve 0x2A q (changeBody (fun s => selectorChecks q 2 s []) (fun s => s.changeSelected q Fixture.douse)))

/-- RELEASE (R45). -/
def execRelease (q : Request) (s : State) : Host.Outcome State Fault Refusal :=
  .next (s.serve 0x2B q (changeBody
    (fun s => selectorChecks q 3 s [(decide (u8 q.payload 2 < 4), .badValue)])
    (fun s => s.changeSelected q (Fixture.release (u8 q.payload 2)))))

/-! ### FIXTURE-QUERY (Table 36) -/

/-- The active transition of an attribute in Table 36. -/
def Transition.queryData {α : Type} (t : Transition α) : List Byte :=
  [sourceCode t.source, sourceNumber t.source, baseCode t.start, shapeCode t.shape] ++ be32 t.duration ++ [boolByte t.complete]

/-- The pending transition of an attribute in Table 36; all fields are 0 when it is absent (R186). -/
def pendingData {α : Type} : Option (Pending α) → List Byte
  | none => [0, 0, 0, 0, 0, 0, 0, 0]
  | some x => [1, sourceCode x.source, sourceNumber x.source, baseCode x.due] ++ momentBytes x.due

/-- A pair of signed 4-byte fields. -/
def anglesBytes (a : Angles) : List Byte := be32i a.pan ++ be32i a.tilt

/-- The FIXTURE-QUERY data of a runtime record (Table 36). -/
def Runtime.queryData (r : Runtime) : List Byte :=
  aimBytes r.aimPresent ++
  be16 r.colourPresent.r ++ be16 r.colourPresent.g ++ be16 r.colourPresent.b ++ be16 r.colourPresent.wmix ++
  be16 r.levelPresent ++
  r.aim.core.queryData ++ r.colour.queryData ++ r.level.queryData ++
  pendingData r.aimPending ++ pendingData r.colourPending ++ pendingData r.levelPending ++
  [spaceCode r.aim.space, boolByte r.aim.reachMark] ++
  anglesBytes r.desired ++ anglesBytes r.commanded ++ anglesBytes r.velocity ++
  [boolByte r.parked, boolByte r.stopped.isSome] ++ anglesBytes (r.stopped.getD ⟨0, 0⟩) ++ [boolByte r.doused] ++
  [boolByte r.reach, boolByte r.lag, boolByte r.gamut, boolByte r.clamped, boolByte r.blanked]

/-- FIXTURE-QUERY (R47). -/
def execFixtureQuery (q : Request) (s : State) : Host.Outcome State Fault Refusal :=
  .next (s.serve 0x23 q (changeBody
    (fun s => (hasLength q 1, .badLength) :: fixtureChecks q s)
    (fun s => (s, .ok (((s.fixture? (fixtureField q)).map fun f => f.run.queryData).getD [])))))

end Sys2Proof.Machine
end

