-- ==== Sys2Proof/Machine/Flags.lean ====
section
/-! DEFINITION. The flags of the runtime record (R19, R58, R74, R75, R87) and the FIXTURE-FLAG notices of their rises. -/

namespace Sys2Proof.Machine

/-- Where the desired angles of an evaluation come from, as far as REACH goes (R19). -/
inductive AngleOrigin where
  /-- From PARK or STOP. -/
  | override
  /-- From an aim solution, with or without the reach fallback. -/
  | solution (fallback : Bool)
  /-- From an angle aim whose active transition carries this reach mark. -/
  | angleAim (reachMark : Bool)
  /-- From a point at the mount point: the previous desired angles. -/
  | mountPoint
  deriving DecidableEq, Repr

/-- REACH after an evaluation that found it `before` (R19). -/
def reachFlag (before : Bool) : AngleOrigin → Bool
  | .override => false
  | .solution fallback => fallback
  | .angleAim reachMark => reachMark
  | .mountPoint => before

/-- LAG after the limiter (R58). -/
def lagFlag (commanded desired : Angles) : Bool := decide (commanded ≠ desired)

/-- A FIXTURE-FLAG notice is raised where a flag rises (R19, R75). -/
def State.raiseFlag (s : State) (i : Fin 128) (flag : FlagName) (before after : Bool) : State :=
  if after && !before then s.raise (.fixtureFlag i flag) else s

/-- The notices of one evaluation: BLANKED rises at step 3 and REACH at step 4 (R36). -/
def State.raiseFlags (s : State) (i : Fin 128) (before after : Runtime) : State :=
  (s.raiseFlag i .blanked before.blanked after.blanked).raiseFlag i .reach before.reach after.reach

end Sys2Proof.Machine
end

