-- ==== Sys2Proof/Machine/Pass.lean ====
section
/-! DEFINITION. The step expiry (R117), the evaluation of a fixture (R36) and the completion of a pass (R35, R164). -/

namespace Sys2Proof.Machine

/-! ### The evaluation of one fixture, steps 1 to 9 of R36 -/

/-- Step 1 for colour: promotion, then the present value (R26, R27, R34). -/
def Fixture.stepColour (f : Fixture) (prof : Profile) (p : Pass) : Fixture :=
  let g := f.promoteColour prof p
  let t := g.run.colour
  let k := t.progress p
  { g with run := { g.run with
      colour := t.observed k, colourPresent := interpolateColour t.shape t.duration k t.fromValue t.toValue } }

/-- Step 1 for level: promotion, then the present value (R26, R27, R34). -/
def Fixture.stepLevel (f : Fixture) (p : Pass) : Fixture :=
  let g := f.promoteLevel p
  let t := g.run.level
  let k := t.progress p
  { g with run := { g.run with
      level := t.observed k, levelPresent := (interpolate t.shape t.duration k t.fromValue t.toValue).toNat } }

/-- The aim present value at progress k (R28); a track aim takes the point its track serves. -/
def AimTransition.value (a : AimTransition) (k : Nat) (served : Fin 4 → Point) : Aim :=
  match a.core.toValue with
  | .track n => .point (served n)
  | .point t =>
    match a.core.fromValue with
    | .point o => .point (interpolatePoint a.core.shape a.core.duration k o t)
    | .angles _ => .point t
    | .track _ => .point t
  | .angles t =>
    if a.target.isSome && k == a.core.duration then (a.target.map Aim.point).getD (.angles t)
    else
      match a.core.fromValue with
      | .angles o => .angles (interpolateAngles a.core.shape a.core.duration k o t)
      | .point _ => .angles t
      | .track _ => .angles t

/-- Step 1 for aim: the present value of the active transition, already promoted (R28). -/
def Fixture.stepAim (f : Fixture) (p : Pass) (served : Fin 4 → Point) : Fixture :=
  let a := f.run.aim
  let k := a.core.progress p
  { f with run := { f.run with aim := { a with core := a.core.observed k }, aimPresent := a.value k served } }

/-- The desired angles before the clamp of step 5, and where they come from (steps 2 to 4 of R36); `checked` is the
zone-checked point of step 3, none where step 3 is not made. -/
def Fixture.aimAngles (f : Fixture) (checked : Option Point) : Angles × AngleOrigin :=
  if f.run.parked then (f.config.park, .override)
  else
    match f.run.stopped with
    | some a => (a, .override)
    | none =>
      match checked, f.run.aimPresent with
      | some pt, _ =>
        (match solve f.config pt f.run.desired.pan with
          | some sol => (sol.angles, .solution sol.fallback)
          | none => (f.run.desired, .mountPoint))
      | none, .angles a => (a, .angleAim f.run.aim.reachMark)
      | none, .point _ => (f.run.desired, .mountPoint)

/-- Step 3 of R36 where it is made: a point-type aim with PARKED clear (R70). -/
def Fixture.zoneStep (f : Fixture) (zones : List Zone) (sticks : List Stick) : Option ZoneCheck :=
  match f.run.parked, f.run.aimPresent with
  | false, .point pt => some (zoneCheck zones sticks f.groups pt)
  | false, .angles _ => none
  | true, _ => none

/-- The level used by the emitters (step 2 of R36). -/
def Fixture.levelUsed (f : Fixture) : Nat := if f.run.parked then f.config.parkLevel else f.run.levelPresent

/-- The emitter drives of steps 8 and 9 for a runtime record after step 3 (R89). -/
def Fixture.emitters (f : Fixture) (prof : Profile) : EmitterDrive :=
  colourPipeline prof f.run.colourPresent f.levelUsed (f.run.doused || f.run.blanked)

/-- Steps 2 to 8 of R36 on a fixture whose present values step 1 has stored. -/
def Fixture.stepOutputs (f : Fixture) (prof : Profile) (p : Pass) (zones : List Zone) (sticks : List Stick) : Fixture :=
  let z := f.zoneStep zones sticks
  let aim := f.aimAngles (z.map ZoneCheck.point)
  let desired := clampAngles f.config aim.1
  let moved := slewBoth prof p.period f.config f.run desired
  let g : Fixture := { f with run := { f.run with
    clamped := z.any ZoneCheck.clamped, blanked := z.any ZoneCheck.blanked
    reach := reachFlag f.run.reach aim.2
    desired := desired, commanded := moved.1, velocity := moved.2, lag := lagFlag moved.1 desired } }
  { g with run := { g.run with gamut := (g.emitters prof).gamut } }

/-- The values step 9 writes over the footprint (R22, R23, R92, R93). -/
def Fixture.slotValues (f : Fixture) (prof : Profile) : List Byte :=
  footprintValues prof f.statics f.run.commanded (f.emitters prof)

/-- The track a fixture's aim takes its point from, if it follows one. -/
def Fixture.followedTrack (f : Fixture) : Option (Fin 4) :=
  match f.run.aim.core.toValue with
  | .track k => some k
  | .point _ => none
  | .angles _ => none

/-- Steps 1 to 8 of R36 for fixture `i`, its tracks read from `s`. -/
def State.evaluated (s : State) (p : Pass) (i : Fin 128) (promoted : Fixture) : Fixture :=
  let prof := s.profileOf promoted.config
  let served := fun k : Fin 4 => s.tku[k].serve i promoted.config.mount p.localTime
  (((promoted.stepAim p served).stepColour prof p).stepLevel p).stepOutputs prof p s.fxe.zones.toList s.sku.sticks.toList

/-- The evaluation of defined fixture `i` in pass `p` (R36). The track of a track aim is updated when its point is first
asked for (R147). -/
def State.evaluateDefined (s : State) (p : Pass) (i : Fin 128) (f : Fixture) : State :=
  let promoted := f.promoteAim p
  let s1 := match promoted.followedTrack with
    | some k => s.updateTrackOnce k p.localTime
    | none => s
  let g := s1.evaluated p i promoted
  let s2 := (s1.setFixture i (some g)).raiseFlags i f.run g.run
  s2.modifyLine g.config.line fun l => l.writeNext g.config.start (g.slotValues (s1.profileOf g.config))

/-- The evaluation of fixture `i` where it is defined (R35). -/
def State.evaluate (s : State) (p : Pass) (i : Fin 128) : State :=
  match s.fixture? i with
  | some f => s.evaluateDefined p i f
  | none => s

/-! ### The running pass -/

/-- The pass record becomes `p`. -/
def State.setPass (s : State) (p : Option Pass) : State := { s with fxe := { s.fxe with pass := p } }

/-- The stick sampling of the expiry takes place where the pass has come to it (R152; log entry 9), on the sticks as they stand
then (log entry 34). -/
def State.meetSampling (s : State) (p : Pass) (number : Nat) : State × Pass :=
  match p.sampling with
  | none => (s, p)
  | some x => if x.before ≤ number then (s.sampleSticks x.adc x.stepLength, { p with sampling := none }) else (s, p)

/-- The next defined fixture that pass `p` has to evaluate (R35). -/
def State.nextToEvaluate (s : State) (p : Pass) : Option (Fin 128) :=
  (List.finRange 128).find? fun i => decide (p.nextFixture ≤ i.val) && (s.fixture? i).isSome

/-- Pass `p` evaluates its next fixture, if one is left (R35, R36). -/
def State.evaluateNext (s : State) (p : Pass) : State :=
  match s.nextToEvaluate p with
  | none => s
  | some i =>
    let m := s.meetSampling p i.val
    (m.1.evaluate m.2 i).setPass (some { m.2 with nextFixture := i.val + 1 })

/-- FIXTURE_EVALUATION: the running pass evaluates its next fixture (R36); without one nothing happens (log entry 3). -/
def execFixtureEvaluation (s : State) : Host.Outcome State Fault Refusal :=
  match s.fxe.pass with
  | some p => .next (s.evaluateNext p)
  | none => .next s

/-- The running pass evaluates up to n more fixtures. -/
def State.evaluateRest : Nat → State → State
  | 0, s => s
  | n + 1, s =>
    match s.fxe.pass with
    | some p => if (s.nextToEvaluate p).isSome then (s.evaluateNext p).evaluateRest n else s
    | none => s

/-- The running pass completes: the sampling it has not met takes place, tracks not yet updated for its expiry are updated
(R147), and the image swap is made (R35, R164). -/
def State.completePass (s : State) : State :=
  match s.fxe.pass with
  | none => s
  | some p =>
    let s1 := match p.sampling with
      | some x => s.sampleSticks x.adc x.stepLength
      | none => s
    ((s1.updateRemaining p.localTime).swapImages).setPass none

/-- A running pass is brought to its end: the fixtures it has not evaluated, then its completion (log entry 11). -/
def State.finishPass (s : State) : State := (s.evaluateRest 128).completePass

/-- PASS_COMPLETION: the running pass completes (R35); without one nothing happens (log entry 3). -/
def execPassCompletion (s : State) : Host.Outcome State Fault Refusal := .next s.finishPass

/-! ### The step expiry (R117) -/

/-- Show time after an advance, not above the end of the day (R117, R118). -/
def advancedTime (t advance : Nat) : Nat := min (t + advance) Config.dayEnd

/-- The second and third orders of R117: the scheduled slip is used up with its counter and SLIP notice, or discarded while
PAUSED (R132), and show time advances by the step length, twice it, or 0. -/
def State.advanceShow (s : State) (step : Nat) : State :=
  if s.scu.running then
    (match s.scu.lock.slip with
      | none => s.setShowTime (advancedTime s.scu.showTime step)
      | some x =>
        let s1 := s.discardSlip.count (if x.skip then Stats.addSkip else Stats.addRepeat)
        let s2 := s1.raise (.slip x.skip x.error)
        s2.setShowTime (advancedTime s.scu.showTime (if x.skip then 2 * step else 0)))
  else s.discardSlip

/-- The first order of R117: the waiting period comes in force and the next expiry falls one new period later (R116). -/
def State.nextStep (s : State) : State :=
  let p := s.scu.waiting.getD s.scu.period
  { s with scu := { s.scu with period := p, waiting := none, nextExpiry := laterBy s.scu.nextExpiry p } }

/-- The pass of the expiry at local time `t` (R35, R49). -/
def State.startPass (s : State) (t : LocalTime) (sampling : Option Sampling) : State :=
  s.setPass (some
    { localTime := t, showTime := s.scu.showTime, period := s.scu.period, nextFixture := 0, sampling := sampling })

/-- The work of the SCU at the step expiry at local time `t`, up to the start of the pass: orders 1 to 4 of R117 and the
update of the bound tracks without members (R147; log entry 10). -/
def State.expire (s : State) (t : LocalTime) : State :=
  let s1 := s.nextStep.advanceShow s.scu.period
  (s1.reportForward false s1.scu.showTime).updateMemberless t

/-- The step expiry at local time `t` with the stick readings of this expiry and the place of its sampling (R117, R152). -/
def State.expireWith (s : State) (t : LocalTime) (adc : Readings) : Nat → State
  | 0 => (((s.setInputs adc).sampleSticks adc s.scu.period).expire t).startPass t none
  | n + 1 => ((s.setInputs adc).expire t).startPass t (some { adc := adc, stepLength := s.scu.period, before := n })

/-- A pass that finds no fixture defined at its start completes at once (R35). -/
def State.completeEmptyPass (s : State) : State := if (s.expand .all).isEmpty then s.completePass else s

/-- STEP_EXPIRY: the step timer expires at its scheduled local time (R117; log entries 2, 9 to 12). -/
def execStepExpiry (adc : Readings) (sampling : Nat) (s : State) : Host.Outcome State Fault Refusal :=
  let s1 := s.finishPass
  .next (((s1.advanceTo (s1.usOf s1.scu.nextExpiry)).expireWith s1.scu.nextExpiry adc sampling).completeEmptyPass)

end Sys2Proof.Machine
end

