-- ==== Sys2Proof/Machine/Link.lean ====
section
/-! DEFINITION. The show link: CRC (R175), frames on the wire (R173, R177), the receiver (R173, R174, R176), and the
commands of the SLI and the RQD that belong to no other block: frames, replies, unknown kinds, UNIT-QUERY, NOTICE-POLL and
STATS. -/

namespace Sys2Proof.Machine

/-! ### Cyclic redundancy checks (R175, R192) -/

/-- One bit into a cyclic redundancy check, most significant first. -/
def crcBit {w : Nat} (poly c : BitVec w) (bit : Bool) : BitVec w := (c <<< 1) ^^^ (if c.msb != bit then poly else 0#w)

/-- One byte into a cyclic redundancy check. -/
def crcByte {w : Nat} (poly c : BitVec w) (b : Byte) : BitVec w :=
  (List.range 8).foldl (fun c i => crcBit poly c (b.getMsbD i)) c

/-- The CRC of a frame over some bytes (R175). -/
def crc16 (bytes : List Byte) : BitVec 16 := bytes.foldl (crcByte 0x8005#16) 0xFFFF#16

/-! ### Frames on the wire -/

/-- A content byte as it is sent: delimiter and escape bytes are escaped (R173). -/
def escapeByte (b : Byte) : List Byte := if b = 0xC5 ∨ b = 0xD9 then [0xD9, b ^^^ 0x20] else [b]

/-- Content with its CRC appended, high byte first (R175). -/
def withCrc (content : List Byte) : List Byte := content ++ be16 (crc16 content).toNat

/-- Content as it travels, between two delimiters (R173). -/
def wireFrame (content : List Byte) : List Byte := 0xC5 :: (content.flatMap escapeByte ++ [0xC5])

/-- The unescaped content of a reply frame of a unit (R177). -/
def Reply.content (r : Reply) (unit : Byte) : List Byte := withCrc ((0x80 + unit) :: r.kind :: r.tag :: r.payload)

/-- The bytes of a reply on the reply pair. -/
def Reply.wire (r : Reply) (unit : Byte) : List Byte := wireFrame (r.content unit)

/-- The driver of the reply pair is enabled while a reply is being sent (R177). -/
def Sli.driverEnabled (l : Sli) : Bool := !l.replies.isEmpty

/-- The time in microseconds at which the reply being sent is sent in full: 5 µs a byte (R173; log entry 16). -/
def Sli.replyEnd (l : Sli) : Nat :=
  match l.replies with
  | [] => l.sendingSince
  | r :: _ => l.sendingSince + 5 * (r.wire l.unitAddress).length

/-! ### The receiver -/

/-- The receiver becomes `r`. -/
def State.setReceiver (s : State) (r : Receiver) : State := { s with sli := { s.sli with receiver := r } }

/-- The request in the content of a good frame. -/
def requestOf (broadcast : Bool) (content : List Byte) : LinkRequest :=
  { kind := content.getD 1 0
    request := { broadcast := broadcast, tag := content.getD 2 0, payload := (content.drop 3).take (content.length - 5) } }

/-- A good frame is filtered by its address, counted when accepted and handed to the RQD (R176, R178). -/
def State.acceptFrame (s : State) (content : List Byte) : State :=
  let address := content.getD 0 0
  if address = 0 then (s.count Stats.addAccepted).takeIn (requestOf true content)
  else if address = s.sli.unitAddress then (s.count Stats.addAccepted).takeIn (requestOf false content)
  else s

/-- A frame that a delimiter ends is judged (R174, R175). -/
def State.judgeFrame (s : State) (buffer : List Byte) (escaped overlong : Bool) : State :=
  if overlong then s.count Stats.addOverlong
  else if escaped then s.count Stats.addShort
  else if buffer.length = 0 then s
  else if buffer.length < 5 then s.count Stats.addShort
  else if crc16 buffer ≠ 0 then s.count Stats.addCrc
  else s.acceptFrame buffer

/-- A content byte joins the buffer, or marks the frame overlong and is discarded (R174). -/
def joinBuffer (buffer : List Byte) (overlong : Bool) (b : Byte) : Receiver :=
  if overlong ∨ Config.maxFrame ≤ buffer.length then .collect buffer false true else .collect (buffer ++ [b]) false false

/-- A byte with a good stop bit arrives on the host pair (R173). -/
def State.linkByte (s : State) (b : Byte) : State :=
  match s.sli.receiver with
  | .hunt => if b = 0xC5 then s.setReceiver (.collect [] false false) else s
  | .collect buffer escaped overlong =>
    if b = 0xC5 then (s.judgeFrame buffer escaped overlong).setReceiver (.collect [] false false)
    else if escaped then s.setReceiver (joinBuffer buffer overlong (b ^^^ 0x20))
    else if b = 0xD9 then s.setReceiver (.collect buffer true overlong)
    else s.setReceiver (joinBuffer buffer overlong b)

/-- FRAME_RECEIVED: bytes arrive on the host pair (R173 to R176, R178). -/
def execFrameReceived (bytes : List Byte) (s : State) : Host.Outcome State Fault Refusal := .next (bytes.foldl State.linkByte s)

/-- FRAME_ABANDONED: a byte with a bad stop bit arrives; in COLLECT the frame is abandoned and counted (R173, R174). -/
def execFrameAbandoned (s : State) : Host.Outcome State Fault Refusal :=
  match s.sli.receiver with
  | .hunt => .next s
  | .collect _ _ true => .next ((s.setReceiver .hunt).count Stats.addOverlong)
  | .collect _ _ false => .next ((s.setReceiver .hunt).count Stats.addShort)

/-! ### Replies and the RQD's own requests -/

/-- The reply being sent has been sent in full: its place is free, and the next reply begins (R177). -/
def State.finishReply (s : State) : State :=
  let s1 := s.advanceTo s.sli.replyEnd
  { s1 with sli := { s1.sli with replies := s1.sli.replies.drop 1, sendingSince := s1.scu.timeUs } }

/-- REPLY_SENT: the reply being sent has been sent in full (R177); without one nothing happens (log entry 3). -/
def execReplySent (s : State) : Host.Outcome State Fault Refusal :=
  if s.sli.replies.isEmpty then .next s else .next s.finishReply

/-- UNKNOWN_KIND: a request whose kind byte names no request is refused UNKNOWN-KIND (R180); a kind byte of Table 33 names a
request, which is another command's (log entry 25). -/
def execUnknownKind (kind : Byte) (q : Request) (s : State) : Host.Outcome State Fault Refusal :=
  if isKnownKind kind then .next s else .next (s.serve kind q fun s => (s, .refuse .unknownKind))

/-- The UNIT-QUERY data (Table 35). -/
def State.unitData (s : State) : List Byte :=
  [s.sli.unitAddress, 1, boolByte s.ims.saving.isSome, boolByte (!s.ims.lastLoadValid)]

/-- UNIT-QUERY (R195). -/
def execUnitQuery (q : Request) (s : State) : Host.Outcome State Fault Refusal :=
  .next (s.serve 0x01 q (changeBody (fun _ => [(hasLength q 0, .badLength)]) (fun s => (s, .ok s.unitData))))

/-- The NOTICE-POLL data: the notices returned, the number left and the lost count (Table 35). -/
def Rqd.pollData (r : Rqd) : List Byte :=
  let given := r.notices.take Config.pollSize
  [byteOf given.length, byteOf (r.notices.length - given.length)] ++ be16 r.lost ++ given.flatMap NoticeRecord.bytes

/-- The effect of an accepted NOTICE-POLL; taken as a broadcast it removes nothing (R183). -/
def State.pollNotices (s : State) (broadcast : Bool) : State × Answer :=
  if broadcast then (s, .ok [])
  else ({ s with rqd := { s.rqd with notices := s.rqd.notices.drop Config.pollSize, lost := 0 } }, .ok s.rqd.pollData)

/-- NOTICE-POLL (R183). -/
def execNoticePoll (q : Request) (s : State) : Host.Outcome State Fault Refusal :=
  .next (s.serve 0x02 q (changeBody (fun _ => [(hasLength q 0, .badLength)]) (fun s => s.pollNotices q.broadcast)))

/-- The counters of Table 31 in its order (R185). -/
def State.counters (s : State) : List Counter :=
  let c := s.rqd.stats
  [c.framesAccepted, c.crcErrors, c.shortFrames, c.overlongFrames, c.refusedBusy, c.broadcastsDropped, c.validMarks,
    c.badMarks, c.skips, c.repeats, c.jumps, c.trackUnderruns] ++
  s.lnu.toList.map Line.framesSent ++ s.lnu.toList.map Line.faults ++ [c.lostNotices]

/-- The line with both counters 0 (R171). -/
def Line.clearCounters (l : Line) : Line := { l with framesSent := 0, faults := 0 }

/-- Every counter of Table 31 becomes 0 (R184). -/
def State.clearCounters (s : State) : State :=
  { s with rqd := { s.rqd with stats := Stats.zero }, lnu := s.lnu.map Line.clearCounters }

/-- The effect of an accepted STATS (R185). -/
def State.takeStats (s : State) (clear : Bool) : State × Answer :=
  (if clear then s.clearCounters else s, .ok (s.counters.flatMap wordBytes))

/-- STATS (R185). -/
def execStats (q : Request) (s : State) : Host.Outcome State Fault Refusal :=
  .next (s.serve 0x03 q (changeBody
    (fun _ => [(hasLength q 1, .badLength), (decide (u8 q.payload 0 < 2), .badValue)])
    (fun s => s.takeStats (u8 q.payload 0 == 1))))

end Sys2Proof.Machine
end

