-- ==== Sys2Proof/Machine/Image.lean ====
section
/-! DEFINITION. The show image: what it holds (Table 39), its bytes, SAVE and its completion (R193), start-up (R192, R195),
RESTART and CLEAR-SHOW (R194). The layout of the body is the model's own: the spec calls it internal to the part (log entry
6). -/

namespace Sys2Proof.Machine

/-! ### What the image holds (Table 39) -/

/-- A fixture as it is saved. -/
structure SavedFixture where
  config : FixtureConfig
  groups : BitVec 32
  statics : List Byte
  deriving DecidableEq, Repr

/-- The settings of a line as they are saved (R158). -/
structure SavedLine where
  armed : ArmedMode
  length : Nat
  startCode : Byte
  check : CheckSlot
  includeStart : Bool
  minInterval : Nat
  pinHigh : Bool
  statics : Vector Byte 512
  deriving DecidableEq, Repr

/-- The settings of a stick as they are saved (R150). -/
structure SavedStick where
  group : Option (Fin 32)
  sampling : SamplingMode
  centreX : Nat
  centreY : Nat
  deadBand : Nat
  gain : Nat
  range : Nat
  deriving DecidableEq, Repr

/-- A READY cue as it is saved. -/
structure SavedCue where
  declared : Nat
  parts : List PartRecord
  deriving DecidableEq, Repr

/-- The contents of a show image. -/
structure ShowImage where
  profiles : Vector (Option Profile) 16
  fixtures : Vector (Option SavedFixture) 128
  zones : Vector Zone 16
  lines : Vector SavedLine 8
  period : Nat
  markInterval : Nat
  jumpThreshold : Nat
  sticks : Vector SavedStick 2
  cues : Vector (Option SavedCue) 96
  timeline : List TimelineEntry
  deriving DecidableEq, Repr

def Line.saved (l : Line) : SavedLine :=
  { armed := l.armed, length := l.length, startCode := l.startCode, check := l.check, includeStart := l.includeStart,
    minInterval := l.minInterval, pinHigh := l.pinHigh, statics := l.statics }

def Stick.saved (k : Stick) : SavedStick :=
  { group := k.group, sampling := k.sampling, centreX := k.centreX, centreY := k.centreY, deadBand := k.deadBand,
    gain := k.gain, range := k.range }

def Fixture.saved (f : Fixture) : SavedFixture := { config := f.config, groups := f.groups, statics := f.statics }

/-- A READY cue is saved, an OPEN or EMPTY one is not. -/
def Cue.saved (k : Cue) : Option SavedCue :=
  match k.state with
  | .ready => some { declared := k.declared, parts := k.parts }
  | .opened => none
  | .empty => none

/-- The items of Table 39 as they stand (R193). -/
def State.tables (s : State) : ShowImage :=
  { profiles := s.fxe.profiles, fixtures := s.fxe.fixtures.map fun f => f.map Fixture.saved, zones := s.fxe.zones
    lines := s.lnu.map Line.saved, period := s.scu.period, markInterval := s.scu.markInterval
    jumpThreshold := s.scu.jumpThreshold, sticks := s.sku.sticks.map Stick.saved, cues := s.pbu.cues.map Cue.saved
    timeline := s.pbu.timeline }

/-! ### The body -/

/-- An optional item: a presence byte, then its bytes. -/
def optItem {α : Type} (bytes : α → List Byte) : Option α → List Byte
  | none => [0]
  | some a => 1 :: bytes a

def SavedFixture.bytes (f : SavedFixture) : List Byte :=
  f.config.bytes ++ groupBytes f.groups ++ [byteOf f.statics.length] ++ f.statics

def SavedLine.bytes (l : SavedLine) : List Byte :=
  [armedCode l.armed] ++ be16 l.length ++ [l.startCode, checkCode l.check, boolByte l.includeStart] ++ be16 l.minInterval ++
  [boolByte l.pinHigh] ++ l.statics.toList

def SavedStick.bytes (k : SavedStick) : List Byte :=
  [optByte (k.group.map Fin.val), samplingCode k.sampling] ++ be16 k.centreX ++ be16 k.centreY ++ be16 k.deadBand ++
  be16 k.gain ++ be16 k.range

def SavedCue.bytes (c : SavedCue) : List Byte :=
  [byteOf c.declared, byteOf c.parts.length] ++ c.parts.flatMap PartRecord.bytes

def TimelineEntry.bytes (e : TimelineEntry) : List Byte := be32 e.time ++ [byteOf e.cue.val]

/-- The body of a show image. -/
def ShowImage.body (w : ShowImage) : List Byte :=
  w.profiles.toList.flatMap (optItem Profile.bytes) ++ w.fixtures.toList.flatMap (optItem SavedFixture.bytes) ++
  w.zones.toList.flatMap Zone.bytes ++ w.lines.toList.flatMap SavedLine.bytes ++
  [byteOf w.period, byteOf w.markInterval] ++ be16 w.jumpThreshold ++ w.sticks.toList.flatMap SavedStick.bytes ++
  w.cues.toList.flatMap (optItem SavedCue.bytes) ++ be16 w.timeline.length ++ w.timeline.flatMap TimelineEntry.bytes

/-- A reader takes an item from the front of some bytes and leaves the rest. -/
abbrev Reader (α : Type) : Type := List Byte → α × List Byte

/-- A reader of an item of n bytes. -/
def readFixed {α : Type} (n : Nat) (f : List Byte → α) : Reader α := fun b => (f b, b.drop n)

/-- A reader of an optional item. -/
def readOpt {α : Type} (one : Reader α) : Reader (Option α) := fun b =>
  if u8 b 0 = 0 then (none, b.drop 1) else (some (one (b.drop 1)).1, (one (b.drop 1)).2)

/-- A reader of n items. -/
def readMany {α : Type} (one : Reader α) : Nat → Reader (List α)
  | 0, b => ([], b)
  | n + 1, b =>
    let head := one b
    let rest := readMany one n head.2
    (head.1 :: rest.1, rest.2)

def readProfile : Reader Profile := fun b => (profileOf b, b.drop (75 + u8 b 0))

def readFixture : Reader SavedFixture := fun b =>
  ({ config := configOf b, groups := groupField b 47, statics := (b.drop 52).take (u8 b 51) }, b.drop (52 + u8 b 51))

def readLine : Reader SavedLine := fun b =>
  ({ armed := armedOf (u8 b 0), length := u16 b 1, startCode := b.getD 3 0, check := checkOf (u8 b 4)
     includeStart := u8 b 5 == 1, minInterval := u16 b 6, pinHigh := u8 b 8 == 1
     statics := Vector.ofFn fun i => (b.drop 9).getD i.val 0 }, b.drop 521)

def stickOf (b : List Byte) : SavedStick :=
  { group := groupOption (u8 b 0), sampling := if u8 b 1 = 1 then .single else .continuous, centreX := u16 b 2
    centreY := u16 b 4, deadBand := u16 b 6, gain := u16 b 8, range := u16 b 10 }

def readCue : Reader SavedCue := fun b =>
  ({ declared := u8 b 0, parts := partsOf (u8 b 1) (b.drop 2) }, b.drop (2 + 34 * u8 b 1))

def entryOf (b : List Byte) : TimelineEntry := { time := u32 b 0, cue := Fin.ofNat 96 (u8 b 4) }

/-- The contents that a body holds. -/
def showOf (body : List Byte) : ShowImage :=
  let profiles := readMany (readOpt readProfile) 16 body
  let fixtures := readMany (readOpt readFixture) 128 profiles.2
  let zones := readMany (readFixed 30 zoneOf) 16 fixtures.2
  let lines := readMany readLine 8 zones.2
  let clock := lines.2
  let sticks := readMany (readFixed 12 stickOf) 2 (clock.drop 4)
  let cues := readMany (readOpt readCue) 96 sticks.2
  let timeline := readMany (readFixed 5 entryOf) (u16 cues.2 0) (cues.2.drop 2)
  { profiles := Vector.ofFn fun i => profiles.1.getD i.val none
    fixtures := Vector.ofFn fun i => fixtures.1.getD i.val none
    zones := Vector.ofFn fun i => zones.1.getD i.val Zone.empty
    lines := Vector.ofFn fun i => lines.1.getD i.val Line.default.saved
    period := u8 clock 0, markInterval := u8 clock 1, jumpThreshold := u16 clock 2
    sticks := Vector.ofFn fun i => sticks.1.getD i.val Stick.default.saved
    cues := Vector.ofFn fun i => cues.1.getD i.val none
    timeline := timeline.1 }

/-! ### Header and check (R192) -/

/-- The CRC-32 over a body (R192). -/
def crc32 (bytes : List Byte) : BitVec 32 := bytes.foldl (crcByte 0x04C11DB7#32) 0xFFFFFFFF#32 ^^^ 0xFFFFFFFF#32

/-- An image with this body: magic word, format 1, body length, body, check. -/
def imageOf (body : List Byte) : List Byte :=
  wordBytes Config.imageMagic ++ [1] ++ be32 body.length ++ body ++ wordBytes (crc32 body)

/-- The body of a valid image at the start of the image area, none when the image is not valid (R192). -/
def validBody (flash : List Byte) : Option (List Byte) :=
  let length := u32 flash 5
  let body := (flash.drop 9).take length
  if u32 flash 0 = Config.imageMagic.toNat ∧ u8 flash 4 = 1 ∧ 1 ≤ length ∧ length ≤ Config.maxBody ∧
      length + 13 ≤ flash.length ∧ u32 flash (9 + length) = (crc32 body).toNat
  then some body else none

/-! ### Saving (R193) -/

/-- The effect of an accepted SAVE: the image area is erased, and the image of the tables as they stand is being written. -/
def State.startSave (s : State) : State × Answer :=
  ({ s with ims := { s.ims with saving := some (imageOf s.tables.body), flash := [] } }, .ok [])

/-- SAVE (R193). -/
def execSave (q : Request) (s : State) : Host.Outcome State Fault Refusal :=
  .next (s.serve 0x04 q (changeBody (fun s => tableChecks (hasLength q 0) s []) State.startSave))

/-- The save of image `image` ends: the image state becomes idle, and SAVE-DONE or SAVE-FAILED is raised; a failed save
leaves the area without a valid image (R193; log entry 7). -/
def State.endSave (s : State) (image : List Byte) (matched : Bool) : State :=
  ({ s with ims := { s.ims with saving := none, flash := if matched then image else [] } } : State).raise
    (if matched then .saveDone else .saveFailed)

/-- SAVE_COMPLETION: the save in progress ends with its read-back (R193); without one nothing happens (log entry 3). -/
def execSaveCompletion (matched : Bool) (s : State) : Host.Outcome State Fault Refusal :=
  match s.ims.saving with
  | some image => .next (s.endSave image matched)
  | none => .next s

/-! ### Start-up (R192, R195) -/

/-- A line right after a load of its settings: no frame, counters 0; its fault input is what it is (R158). -/
def SavedLine.loaded (l : SavedLine) (faultInput : Bool) : Line :=
  { mode := l.armed.mode, armed := l.armed, length := l.length, startCode := l.startCode, check := l.check
    includeStart := l.includeStart, minInterval := l.minInterval, pinHigh := l.pinHigh, statics := l.statics
    next := l.statics, latest := l.statics, frame := none, lastStart := none, framesSent := 0, faults := 0
    faultInput := faultInput }

/-- A stick right after a load of its settings (R150). -/
def SavedStick.loaded (k : SavedStick) : Stick :=
  { group := k.group, sampling := k.sampling, centreX := k.centreX, centreY := k.centreY, deadBand := k.deadBand
    gain := k.gain, range := k.range, offsetX := 0, offsetY := 0, faultX := false, faultY := false, rawX := 2048
    rawY := 2048 }

/-- A loaded fixture with its runtime record reset at local clock 0 (R24, R48). -/
def SavedFixture.loaded (f : SavedFixture) (profiles : Vector (Option Profile) 16) : Fixture :=
  { config := f.config, groups := f.groups, statics := f.statics
    run := resetRuntime f.config ((profiles[f.config.profile]).getD Profile.blank) 0 }

/-- A loaded cue: READY where the image holds it, EMPTY otherwise (R96). -/
def SavedCue.loaded : Option SavedCue → Cue
  | some c => { state := .ready, declared := c.declared, parts := c.parts }
  | none => Cue.blank

/-- The contents in force when no valid image is found: empty tables and the defaults (R192). -/
def ShowImage.defaults : ShowImage :=
  { profiles := Vector.replicate 16 none, fixtures := Vector.replicate 128 none, zones := Vector.replicate 16 Zone.empty
    lines := Vector.replicate 8 Line.default.saved, period := 4, markInterval := 40, jumpThreshold := 250
    sticks := Vector.replicate 2 Stick.default.saved, cues := Vector.replicate 96 none, timeline := [] }

/-- How many pool slots some cues hold. -/
def partsHeld (cues : List Cue) : Nat := (cues.map fun c => c.parts.length).sum

/-- The PBU after a load: the pool holds the loaded parts, no build is open, and the cursor stands behind the entries at
time 0 (R96, R98, R136). -/
def ShowImage.pbu (w : ShowImage) : Pbu :=
  let cues := w.cues.map SavedCue.loaded
  { cues := cues, poolFree := Config.poolSize - partsHeld cues.toList, openBuild := none, timeline := w.timeline
    cursor := cursorAt w.timeline 0 }

/-- The SCU after a load (R115, R116, R118, R121, R134). -/
def ShowImage.scu (w : ShowImage) : Scu :=
  { timeUs := 0, period := w.period, waiting := none, nextExpiry := BitVec.ofNat 32 w.period, showTime := 0
    running := false, markInterval := w.markInterval, jumpThreshold := w.jumpThreshold, receiver := .hunting
    lock := .search }

/-- The FXE after a load. -/
def ShowImage.fxe (w : ShowImage) : Fxe :=
  { profiles := w.profiles, fixtures := w.fixtures.map fun f => f.map fun x => x.loaded w.profiles, zones := w.zones
    pass := none }

/-- The RQD right after power-on or the RESET pin (R181, R182, R184). -/
def Rqd.start : Rqd :=
  { normal := [], urgent := [], inProgress := none, notices := [], lost := 0, stats := Stats.zero }

/-- Every block at its state after a load of `w`, before the lines meet their fault inputs (R192). The pins keep what they
present from outside: flash contents, fault inputs, stick inputs (log entry 17). -/
def State.loadShow (s : State) (w : ShowImage) (valid : Bool) (straps : BitVec 4) : State :=
  { sli := { unitAddress := straps.setWidth 8 + 1, receiver := .hunt, replies := [], sendingSince := 0 }
    rqd := Rqd.start, fxe := w.fxe, scu := w.scu, pbu := w.pbu, tku := Vector.replicate 4 Track.unbound
    sku := { sticks := w.sticks.map SavedStick.loaded, inputs := s.sku.inputs }
    lnu := Vector.ofFn fun i => (w.lines[i]).loaded (s.lnu[i]).faultInput
    ims := { saving := none, lastLoadValid := valid, flash := s.ims.flash }
    pending := s.pending }

/-- The start-up sequence: straps, load or defaults with IMAGE-INVALID, line faults, images (R192, R195). -/
def State.startUp (s : State) (straps : BitVec 4) : State :=
  let loaded := match validBody s.ims.flash with
    | some body => s.loadShow (showOf body) true straps
    | none => (s.loadShow ShowImage.defaults false straps).raise .imageInvalid
  loaded.rearmLines.rebuildImages

/-- POWER_ON (R192, R195). -/
def execPowerOn (straps : BitVec 4) (s : State) : Host.Outcome State Fault Refusal := .next (s.startUp straps)

/-- RESET_PIN: as power-on; a save, replies and frames in progress end at once (R158, R181, R193). -/
def execResetPin (straps : BitVec 4) (s : State) : Host.Outcome State Fault Refusal := .next (s.startUp straps)

/-! ### RESTART and CLEAR-SHOW (R194) -/

/-- A unicast still waiting at a RESTART is answered BUSY in its reserved place and counted; a broadcast is discarded
(R181). -/
def State.turnAway (s : State) (r : LinkRequest) : State :=
  if r.request.broadcast then s else (s.count Stats.addBusy).pushReply (replyTo r (.refuse .busy))

/-- Two lanes merged, each from its head; `normalNext n` says whether the normal lane gives the next request while n + 1
requests are left (R181). -/
def mergeLanes (normalNext : Nat → Bool) : Nat → List LinkRequest → List LinkRequest → List LinkRequest
  | 0, normal, urgent => normal ++ urgent
  | _ + 1, [], urgent => urgent
  | _ + 1, normal, [] => normal
  | n + 1, a :: normal, b :: urgent =>
    if normalNext n then a :: mergeLanes normalNext n normal (b :: urgent)
    else b :: mergeLanes normalNext n (a :: normal) urgent

/-- The requests a RESTART at microsecond `now` finds waiting, in the order it answers them: each lane from its head, the
order between the lanes by `Config.normalLaneFirst` (R181). -/
def Rqd.waitingRequests (r : Rqd) (now : Nat) : List LinkRequest :=
  mergeLanes (Config.normalLaneFirst now) (r.normal.length + r.urgent.length) r.normal r.urgent

/-- Both lanes are emptied by a RESTART (R181). -/
def State.emptyLanes (s : State) : State :=
  let t := (s.rqd.waitingRequests s.scu.timeUs).foldl State.turnAway s
  { t with rqd := { t.rqd with normal := [], urgent := [] } }

/-- The notice queue is emptied and every counter set to 0 (R182, R184). -/
def State.emptyNotices (s : State) : State :=
  let t := s.clearCounters
  { t with rqd := { t.rqd with notices := [], lost := 0 } }

/-- Every runtime record is reset now (R24). -/
def State.resetRuntimes (s : State) : State :=
  { s with fxe := { s.fxe with fixtures := s.fxe.fixtures.map fun f => f.map s.resetFixture } }

/-- Every track UNBOUND, and every stick at offset 0 without fault (R141, R150). -/
def State.restUnits (s : State) : State :=
  { s with tku := Vector.replicate 4 Track.unbound, sku := { s.sku with sticks := s.sku.sticks.map Stick.rest } }

/-- Show time 0, PAUSED, SEARCH, without notice (R118). -/
def State.restClock (s : State) : State := { s with scu := { s.scu with showTime := 0, running := false, lock := .search } }

/-- The effect of RESTART after its reply is built (R194). -/
def State.restart (s : State) : State :=
  let s1 := s.emptyLanes.emptyNotices.abortBuild.resetRuntimes.restUnits.restClock.setMarkReceiver .hunting
  ((s1.setCursor (cursorAt s1.pbu.timeline 0)).rearmLines).rebuildImages

/-- The service of RESTART: its own reply is built before it takes effect, and a refused one changes nothing (R181, R194). -/
def State.serveRestart (s : State) (q : Request) : State :=
  let r : LinkRequest := { kind := 0x05, request := q }
  let s1 := s.present r
  if s1.rqd.inProgress = some r then
    (match firstFailing (tableChecks (hasLength q 0) s1 []) with
      | some st => s1.complete r (.refuse st)
      | none => (if q.broadcast then s1.dropRequest else s1.dropRequest.pushReply (replyTo r (.ok []))).restart)
  else s1

/-- RESTART (R194). -/
def execRestart (q : Request) (s : State) : Host.Outcome State Fault Refusal := .next (s.serveRestart q)

/-- The line with the defaults of R158, OFF; its counters, last frame start, fault input and frame in progress are kept. -/
def Line.cleared (l : Line) : Line :=
  { Line.default with
    frame := l.frame, lastStart := l.lastStart, framesSent := l.framesSent, faults := l.faults, faultInput := l.faultInput }

/-- Every table emptied, and zones, lines and sticks at their defaults (R194). -/
def State.emptyShow (s : State) : State :=
  { s with
    fxe := { s.fxe with
      profiles := Vector.replicate 16 none, fixtures := Vector.replicate 128 none
      zones := Vector.replicate 16 Zone.empty }
    pbu := { cues := Vector.replicate 96 Cue.blank, poolFree := Config.poolSize, openBuild := none, timeline := []
             cursor := 0 }
    tku := Vector.replicate 4 Track.unbound
    sku := { s.sku with sticks := Vector.replicate 2 Stick.default }
    lnu := s.lnu.map Line.cleared }

/-- The effect of CLEAR-SHOW (R194). -/
def State.clearShow (s : State) : State := (s.emptyShow.restClock.rearmLines).rebuildImages

/-- CLEAR-SHOW (R194). -/
def execClearShow (q : Request) (s : State) : Host.Outcome State Fault Refusal :=
  .next (s.serve 0x06 q (changeBody (fun s => tableChecks (hasLength q 0) s []) (fun s => (s.clearShow, .ok []))))

end Sys2Proof.Machine
end

