-- ==== Sys2Proof/Machine/Dispatch.lean ====
section
/-! DEFINITION. The effect of a command on everything but the queue, one arm per row of spec/opcode_table.json. -/

namespace Sys2Proof.Machine

/-- The effect of a command on everything but the queue. -/
def exec (i : Instr) (s : State) : Host.Outcome State Fault Refusal :=
  match i with
  | .powerOn straps => Sys2Proof.Machine.execPowerOn straps s
  | .resetPin straps => Sys2Proof.Machine.execResetPin straps s
  | .frameReceived bytes => Sys2Proof.Machine.execFrameReceived bytes s
  | .replySent => Sys2Proof.Machine.execReplySent s
  | .unknownKind kind q => Sys2Proof.Machine.execUnknownKind kind q s
  | .unitQuery q => Sys2Proof.Machine.execUnitQuery q s
  | .noticePoll q => Sys2Proof.Machine.execNoticePoll q s
  | .stats q => Sys2Proof.Machine.execStats q s
  | .save q => Sys2Proof.Machine.execSave q s
  | .saveCompletion matched => Sys2Proof.Machine.execSaveCompletion matched s
  | .restart q => Sys2Proof.Machine.execRestart q s
  | .clearShow q => Sys2Proof.Machine.execClearShow q s
  | .profileLoad q => Sys2Proof.Machine.execProfileLoad q s
  | .profileRemove q => Sys2Proof.Machine.execProfileRemove q s
  | .profileRead q => Sys2Proof.Machine.execProfileRead q s
  | .fixtureDefine q => Sys2Proof.Machine.execFixtureDefine q s
  | .fixtureRemove q => Sys2Proof.Machine.execFixtureRemove q s
  | .fixtureSlots q => Sys2Proof.Machine.execFixtureSlots q s
  | .fixtureRead q => Sys2Proof.Machine.execFixtureRead q s
  | .groupSet q => Sys2Proof.Machine.execGroupSet q s
  | .groupRead q => Sys2Proof.Machine.execGroupRead q s
  | .zoneSet q => Sys2Proof.Machine.execZoneSet q s
  | .zoneRead q => Sys2Proof.Machine.execZoneRead q s
  | .aim q => Sys2Proof.Machine.execAim q s
  | .tint q => Sys2Proof.Machine.execTint q s
  | .level q => Sys2Proof.Machine.execLevel q s
  | .fixtureQuery q => Sys2Proof.Machine.execFixtureQuery q s
  | .park q => Sys2Proof.Machine.execPark q s
  | .stop q => Sys2Proof.Machine.execStop q s
  | .douse q => Sys2Proof.Machine.execDouse q s
  | .release q => Sys2Proof.Machine.execRelease q s
  | .go q => Sys2Proof.Machine.execGo q s
  | .cueOpen q => Sys2Proof.Machine.execCueOpen q s
  | .cuePart q => Sys2Proof.Machine.execCuePart q s
  | .cueDelete q => Sys2Proof.Machine.execCueDelete q s
  | .cueRead q => Sys2Proof.Machine.execCueRead q s
  | .showTime q => Sys2Proof.Machine.execShowTime q s
  | .clockSet q => Sys2Proof.Machine.execClockSet q s
  | .clockQuery q => Sys2Proof.Machine.execClockQuery q s
  | .timelineAdd q => Sys2Proof.Machine.execTimelineAdd q s
  | .timelineRemove q => Sys2Proof.Machine.execTimelineRemove q s
  | .timelineRead q => Sys2Proof.Machine.execTimelineRead q s
  | .trackBind q => Sys2Proof.Machine.execTrackBind q s
  | .trackPoints q => Sys2Proof.Machine.execTrackPoints q s
  | .trackRelease q => Sys2Proof.Machine.execTrackRelease q s
  | .trackQuery q => Sys2Proof.Machine.execTrackQuery q s
  | .stickSet q => Sys2Proof.Machine.execStickSet q s
  | .stickCentre q adc => Sys2Proof.Machine.execStickCentre q adc s
  | .stickZero q => Sys2Proof.Machine.execStickZero q s
  | .stickSample q adc => Sys2Proof.Machine.execStickSample q adc s
  | .stickQuery q => Sys2Proof.Machine.execStickQuery q s
  | .lineSet q => Sys2Proof.Machine.execLineSet q s
  | .linePin q => Sys2Proof.Machine.execLinePin q s
  | .lineStatic q => Sys2Proof.Machine.execLineStatic q s
  | .lineQuery q => Sys2Proof.Machine.execLineQuery q s
  | .lineImage q => Sys2Proof.Machine.execLineImage q s
  | .stepExpiry adc sampling => Sys2Proof.Machine.execStepExpiry adc sampling s
  | .fixtureEvaluation => Sys2Proof.Machine.execFixtureEvaluation s
  | .passCompletion => Sys2Proof.Machine.execPassCompletion s
  | .markReceived bytes => Sys2Proof.Machine.execMarkReceived bytes s
  | .markAbandoned => Sys2Proof.Machine.execMarkAbandoned s
  | .confirmDeadline => Sys2Proof.Machine.execConfirmDeadline s
  | .watchDeadline => Sys2Proof.Machine.execWatchDeadline s
  | .frameStart line => Sys2Proof.Machine.execFrameStart line s
  | .frameSent line => Sys2Proof.Machine.execFrameSent line s
  | .faultInputAsserted line => Sys2Proof.Machine.execFaultInputAsserted line s
  | .faultInputReleased line => Sys2Proof.Machine.execFaultInputReleased line s
  | .frameAbandoned => Sys2Proof.Machine.execFrameAbandoned s

end Sys2Proof.Machine
end

