-- ==== Sys2Proof/Machine/Idle.lean ====
section
/-! DEFINITION. What the part does by itself while no command waits (log entry 1): the events of its own that are due, and
the passage of time. -/

namespace Sys2Proof.Machine

/-- An event of the part's own with the microsecond at which it is due. -/
structure OwnEvent where
  due : Nat
  command : Instr
  deriving DecidableEq, Repr

/-- The request in progress, which is due now (R179). -/
def State.requestEvent (s : State) : List OwnEvent :=
  s.rqd.inProgress.toList.map fun r => { due := s.scu.timeUs, command := commandOf r.kind r.request s.sku.inputs }

/-- The next evaluation of the running pass, or its completion, due now (R35). -/
def State.passEvent (s : State) : List OwnEvent :=
  s.fxe.pass.toList.map fun p =>
    { due := s.scu.timeUs, command := if (s.nextToEvaluate p).isSome then .fixtureEvaluation else .passCompletion }

/-- The deadline of the lock machine (R124, R126). -/
def State.deadlineEvent (s : State) : List OwnEvent :=
  match s.scu.lock with
  | .confirm _ d => [{ due := s.usOf d, command := .confirmDeadline }]
  | .locked _ _ w _ _ => [{ due := s.usOf w, command := .watchDeadline }]
  | .search => []
  | .holdover => []

/-- The end of the 2 ms that a mark being collected waits for its next byte (R121). -/
def State.markEvent (s : State) : List OwnEvent :=
  match s.scu.receiver with
  | .hunting => []
  | .collecting _ last => [{ due := last + Config.markGapUs + 1, command := .markAbandoned }]

/-- The end of the reply being sent (R177). -/
def State.replyEvent (s : State) : List OwnEvent :=
  if s.sli.replies.isEmpty then [] else [{ due := s.sli.replyEnd, command := .replySent }]

/-- The end of a line's frame, or the start of its next one (R166). -/
def State.lineEvent (s : State) (l : Fin 8) : List OwnEvent :=
  match s.lnu[l].frame with
  | some f => [{ due := f.startUs + frameTime f.length, command := .frameSent l }]
  | none => if s.lnu[l].mayStart then [{ due := s.lnu[l].frameDue s.scu.timeUs, command := .frameStart l }] else []

/-- The next step expiry, with the stick inputs as they are and the sampling before the work of the SCU (R117). -/
def State.expiryEvent (s : State) : OwnEvent :=
  { due := s.usOf s.scu.nextExpiry, command := .stepExpiry s.sku.inputs 0 }

/-- The events of the part's own, in the order taken among those due at one moment. -/
def State.ownEvents (s : State) : List OwnEvent :=
  s.requestEvent ++ s.passEvent ++ s.deadlineEvent ++ s.markEvent ++ s.replyEvent ++ (List.finRange 8).flatMap s.lineEvent ++
    [s.expiryEvent]

/-- The earliest event of a list, the first of them where several are due together; `best` when none is earlier. -/
def earliest (best : OwnEvent) : List OwnEvent → OwnEvent
  | [] => best
  | e :: rest => earliest (if e.due < best.due then e else best) rest

/-- The event that comes next. -/
def State.nextEvent (s : State) : OwnEvent :=
  match s.ownEvents with
  | [] => s.expiryEvent
  | e :: rest => earliest e rest

/-- With no command waiting: an event that is due happens, or time passes to the next event or the next millisecond,
whichever comes first. -/
def State.idle (s : State) : Host.Outcome State Fault Refusal :=
  let e := s.nextEvent
  if e.due ≤ s.scu.timeUs then exec e.command s
  else .next (s.advanceTo (min e.due ((s.scu.timeUs / 1000 + 1) * 1000)))

end Sys2Proof.Machine
end

