-- ==== Sys2Proof/WellFormed.lean ====
section
/-! DEFINITION. Which terms of `Instr` are commands the TH-880 can meet. -/

namespace Sys2Proof

/-- A frame holds the payload (R173). -/
def Request.wf (q : Request) : Bool := decide (q.payload.length ≤ Config.maxPayload)

/-- The request a command carries fits a frame. -/
def Instr.requestOk (i : Instr) : Bool := i.request.all Request.wf

/-- The kind byte of an unknown request names no request (R180). -/
def Instr.kindOk : Instr → Bool
  | .unknownKind kind _ => !isKnownKind kind
  | _ => true

/-- The place of the stick sampling is one of those `stepExpiry` tells apart (R152). -/
def Instr.samplingOk : Instr → Bool
  | .stepExpiry _ sampling => decide (sampling ≤ 129)
  | _ => true

/-- A well-formed command. -/
def Instr.wf (i : Instr) : Bool := i.requestOk && i.kindOk && i.samplingOk

end Sys2Proof
end

