-- ==== Sys2Proof/Safety.lean ====
section
/-! DEFINITION. What counts as a safe state of the TH-880, and the terms its statements use. -/

namespace Sys2Proof

/-- Power-on or the RESET pin: the commands that load the show image. -/
def Instr.loadsImage : Instr → Bool
  | .powerOn _ => true
  | .resetPin _ => true
  | _ => false

end Sys2Proof

namespace Sys2Proof.Machine

/-! ### The show link -/

/-- The request with this kind byte is in progress (R179). -/
def State.serving (s : State) (kind : Byte) (q : Request) : Prop := s.rqd.inProgress = some { kind := kind, request := q }

/-- `s` after a request in progress has completed with an answer (R179). -/
def State.answered (s : State) (kind : Byte) (q : Request) (a : Answer) : State :=
  s.complete { kind := kind, request := q } a

/-- The payload length fits the kind (Table 33, R187); a kind that names no request has no length. -/
def payloadLengthOk (kind : Byte) (p : List Byte) : Bool :=
  let counted := fun (base atOffset size : Nat) =>
    decide (atOffset < p.length ∧ p.length = base + size * u8 p atOffset ∧ p.length ≤ 240)
  match kind.toNat with
  | 0x10 => counted 76 1 1
  | 0x15 => counted 3 2 1
  | 0x31 => counted 2 1 34
  | 0x41 => counted 2 1 15
  | 0x52 => counted 4 3 1
  | 0x13 => p.length == 48
  | 0x17 => p.length == 17
  | 0x19 => p.length == 31
  | 0x20 => p.length == 20
  | 0x21 => p.length == 16
  | 0x22 => p.length == 9
  | 0x28 | 0x29 | 0x2A => p.length == 2
  | 0x2B => p.length == 3
  | 0x30 | 0x33 => p.length == 2
  | 0x38 | 0x3B | 0x3C => p.length == 5
  | 0x39 => p.length == 4
  | 0x40 => p.length == 2
  | 0x48 | 0x50 => p.length == 9
  | 0x51 => p.length == 2
  | 0x54 => p.length == 5
  | 0x01 | 0x02 | 0x04 | 0x05 | 0x06 | 0x3A => p.length == 0
  | _ => p.length == 1

/-- The kinds refused SAVING while the image state is SAVING (Table 40). -/
def savingKinds : List Byte :=
  [0x10, 0x11, 0x13, 0x14, 0x15, 0x17, 0x19, 0x30, 0x31, 0x32, 0x3B, 0x3C, 0x39, 0x48, 0x49, 0x50, 0x51, 0x52, 0x04, 0x05,
    0x06]

/-- The bounds of the lanes, the notice queue and the reply queue (R177, R178, R182). -/
def State.linkBounded (s : State) : Prop :=
  s.rqd.normal.length ≤ 8 ∧ s.rqd.urgent.length ≤ 4 ∧ s.rqd.notices.length ≤ 32 ∧ s.rqd.lost ≤ 65535 ∧ s.placesHeld ≤ 16

/-- While a request waits in a lane, a request is in progress (R179). -/
def State.serviceOk (s : State) : Prop :=
  s.rqd.inProgress = none → s.rqd.normal = [] ∧ s.rqd.urgent = []

/-! ### Frames of the state -/

/-- The fixture numbered `i` is one that the selector names (R13). -/
def Selector.names (sel : Selector) (i : Fin 128) (f : Fixture) : Bool :=
  match sel with
  | .fixture n => i.val == n
  | .group g => f.groups.getLsbD g
  | .all => true

/-- How many defined fixtures a selector names. -/
def State.numberNamed (s : State) (sel : Selector) : Nat :=
  (List.finRange 128).countP fun i => (s.fixture? i).any (sel.names i)

/-- `t` is `s` but for its fixtures, which are those of `s` changed by `f`. -/
def State.fixturesChanged (s t : State) (f : Fin 128 → Fixture → Fixture) : Prop :=
  t = { s with fxe := { s.fxe with fixtures := t.fxe.fixtures } } ∧ ∀ i, t.fixture? i = (s.fixture? i).map (f i)

/-- Index `k` of an image lies in the footprint of `n` slots from slot `start` on. -/
def covers (start n k : Nat) : Bool := decide (start - 1 ≤ k) && decide (k < start - 1 + n)

/-- The lines of `t` are those of `s` but for their next images, which hold `value`. -/
def State.nextImages (s t : State) (value : Fin 8 → Nat → Byte) : Prop :=
  ∀ l : Fin 8, t.lnu[l] = { s.lnu[l] with next := (t.lnu[l]).next } ∧
    ∀ (k : Nat) (h : k < 512), (t.lnu[l]).next[k] = value l k

/-! ### Acceptance of a profile and of a fixture -/

/-- A mechanical range is a range of angles (R4). -/
def Window.isRange (w : Window) : Prop := w.lo < w.hi ∧ -131072 ≤ w.lo ∧ w.hi ≤ 131072

/-- A PROFILE-LOAD payload that the checks of R4 accept, by the profile it carries. -/
def profileAccepted (b : List Byte) : Prop :=
  let p := profileOf (b.drop 1)
  b.length = 76 + p.footprint ∧ 1 ≤ p.footprint ∧ p.footprint ≤ 48 ∧ (∀ o ∈ p.mapped, o < p.footprint) ∧ p.mapped.Nodup ∧
  (p.whiteFine.isSome → p.whiteCoarse.isSome) ∧ p.panRange.isRange ∧ p.tiltRange.isRange ∧
  (∀ v ∈ [p.panVmax, p.tiltVmax], 1 ≤ v ∧ v ≤ 1048576) ∧ (∀ v ∈ [p.panAmax, p.tiltAmax], 1 ≤ v ∧ v ≤ 16777216) ∧
  (∀ w, p.whiteVector = some w → 1 ≤ w.r ∧ 1 ≤ w.g ∧ 1 ≤ w.b) ∧ u8 b 74 < 2 ∧ u8 b 75 < 2

/-- A coordinate triple lies on stage (section 3.3). -/
def Point.inStage (p : Point) : Prop :=
  -200000 ≤ p.x ∧ p.x ≤ 200000 ∧ -200000 ≤ p.y ∧ p.y ≤ 200000 ∧ -20000 ≤ p.z ∧ p.z ≤ 80000

/-- Two footprints on one line share no slot (R8). -/
def disjointSlots (start1 n1 start2 n2 : Nat) : Prop := start1 + n1 ≤ start2 ∨ start2 + n2 ≤ start1

/-! ### The fixture engine -/

/-- A value lies in a window. -/
def Window.holds (w : Window) (v : Int) : Prop := w.lo ≤ v ∧ v ≤ w.hi

/-- A window lies inside a range. -/
def Window.inside (w range : Window) : Prop := range.lo ≤ w.lo ∧ w.lo ≤ w.hi ∧ w.hi ≤ range.hi

/-- A defined fixture names a defined profile, its soft windows lie in the mechanical ranges of that profile, and its park
angles and commanded angles lie in the soft windows (R1, R7, R55). -/
def State.fixturesOk (s : State) : Prop :=
  ∀ (i : Fin 128) (f : Fixture), s.fixture? i = some f →
    ∃ p, s.fxe.profiles[f.config.profile] = some p ∧
      f.config.panWindow.inside p.panRange ∧ f.config.tiltWindow.inside p.tiltRange ∧
      f.config.panWindow.holds f.config.park.pan ∧ f.config.tiltWindow.holds f.config.park.tilt ∧
      f.config.panWindow.holds f.run.commanded.pan ∧ f.config.tiltWindow.holds f.run.commanded.tilt

/-! ### Playback, clock and tracks -/

/-- The part pool and the open-build record (R98, R99). -/
def State.poolOk (s : State) : Prop :=
  s.pbu.poolFree + partsHeld s.pbu.cues.toList = 1024 ∧
  ∀ c : Fin 96,
    ((s.cueOf c).state = .empty → (s.cueOf c).parts = []) ∧
    ((s.cueOf c).state = .ready → (s.cueOf c).parts.length = (s.cueOf c).declared) ∧
    ((s.cueOf c).state = .opened ↔
      s.pbu.openBuild = some { cue := c, declared := (s.cueOf c).declared, received := (s.cueOf c).parts.length })

/-- The timeline stands in order of time, the cursor equals the number of entries whose time is at most show time, and show
time lies within the day (R118, R136). -/
def State.timelineOk (s : State) : Prop :=
  s.scu.showTime ≤ 86399999 ∧ s.pbu.timeline.Pairwise (fun a b => a.time ≤ b.time) ∧
  s.pbu.cursor = (s.pbu.timeline.filter fun e => decide (e.time ≤ s.scu.showTime)).length

/-- The lock machine is in LOCKED only while its bad count is below 3 (R128), and a mark being collected has fewer than its
six body bytes (R121). -/
def State.lockOk (s : State) : Prop :=
  s.scu.lock.badCount < 3 ∧ ∀ body last, s.scu.receiver = .collecting body last → body.length < 6

/-- Each due time is later than the time before it (R141). -/
def dueTimesRise (after : LocalTime) : List TrackEntry → Prop
  | [] => True
  | e :: rest => 0 < since e.due after ∧ dueTimesRise e.due rest

/-- A track's queue holds at most 32 entries, holds one exactly while the track is RUNNING, and its due times rise from the
from-time on (R141). -/
def Track.ok (k : Track) : Prop :=
  k.queue.length ≤ 32 ∧ (k.state = .running ↔ k.queue ≠ []) ∧
    (∀ t, k.fromTime = some t → dueTimesRise t k.queue) ∧ (k.fromTime = none → k.queue = [])

/-- Every track is in order. -/
def State.tracksOk (s : State) : Prop := ∀ k : Fin 4, s.tku[k].ok

/-! ### Roundings (section 3.7) -/

/-- `x` is the exact quotient n / d rounded half-away. -/
def isHalfAway (x n : Int) (d : Nat) : Prop :=
  2 * (d * x - n).natAbs ≤ d ∧ (2 * (d * x - n).natAbs = d → n.natAbs < d * x.natAbs)

/-- `x` is the exact quotient n / d rounded half-up. -/
def isHalfUp (x n : Int) (d : Nat) : Prop := 2 * d * x ≤ 2 * n + d ∧ 2 * n + d < 2 * d * (x + 1)

/-! ### Slot images -/

/-- The images right after a rebuild (R165): each slot of a line's next image holds the static slot value of the fixture over
it, of the last one where several are, and the line static value where none is; the latest image is equal. -/
def State.imagesRebuilt (s : State) : Prop :=
  ∀ (l : Fin 8) (k : Nat) (h : k < 512),
    let covering := fun f : Fixture => f.config.line = l ∧ covers f.config.start f.statics.length k = true
    (s.lnu[l]).latest = (s.lnu[l]).next ∧
    ((∀ i f, s.fixture? i = some f → ¬covering f) → (s.lnu[l]).next[k] = (s.lnu[l]).statics[k]) ∧
    ∀ i f, s.fixture? i = some f → covering f → (∀ j g, i < j → s.fixture? j = some g → ¬covering g) →
      (s.lnu[l]).next[k] = f.statics.getD (k - (f.config.start - 1)) 0

/-! ### Firings (R108 to R113) -/

/-- What a fired cue part gives one fixture it names: with no delay a start on each attribute it sets, with a delay a pending
transition on each; a snapped firing takes fade and delay as 0. -/
def PartRecord.given (p : PartRecord) (prof : Profile) (cue : Nat) (now : Moment) (snapped : Bool) (f : Fixture) : Fixture :=
  let fade := if snapped then 0 else min p.fade.toNat 600000
  let delay := if snapped then 0 else min p.delay.toNat 600000
  let shape : Shape := if p.shape = 1 then .ease else .linear
  let due : Moment :=
    match now with
    | .onLocal t => .onLocal (t + BitVec.ofNat 32 delay)
    | .onShow t => .onShow (t + delay)
  let started : Runtime :=
    { f.run with
      aim := (p.aim.map fun a => aimStart f (.cue cue) now a fade shape).getD f.run.aim
      colour :=
        (p.colour.map fun x => newTransition (.cue cue) now f.run.colourPresent (colourOf prof x) fade shape).getD f.run.colour
      level := (p.levelValue.map fun v => newTransition (.cue cue) now f.run.levelPresent v fade shape).getD f.run.level }
  let waiting : Runtime :=
    { f.run with
      aimPending := (p.aim.map fun a => some ⟨.cue cue, due, a, fade, shape⟩).getD f.run.aimPending
      colourPending := (p.colour.map fun x => some ⟨.cue cue, due, x, fade, shape⟩).getD f.run.colourPending
      levelPending := (p.levelValue.map fun v => some ⟨.cue cue, due, v, fade, shape⟩).getD f.run.levelPending }
  { f with run := if delay = 0 then started else waiting }

/-- What a firing of cue `c` gives fixture `i`: its parts in stored order, each where its selector names the fixture. -/
def State.cueGives (s : State) (c : Fin 96) (now : Moment) (snapped : Bool) (i : Fin 128) (f : Fixture) : Fixture :=
  (s.cueOf c).parts.foldl
    (fun g p => if p.selector.any (fun sel => sel.names i f) then p.given (s.profileOf f.config) c.val now snapped g else g) f

/-- The timeline entries a move of show time to `time` passes: those above show time and at most `time` (R119, R138). -/
def State.entriesPassed (s : State) (time : Nat) : List TimelineEntry :=
  s.pbu.timeline.filter fun e => decide (s.scu.showTime < e.time) && decide (e.time ≤ time)

/-- What entries handed to the PBU give fixture `i`: each READY cue fires at show time `time` on the SHOW base (R112, R113). -/
def State.timelineGives (s : State) (entries : List TimelineEntry) (time : Nat) (snapped : Bool) (i : Fin 128) (f : Fixture) :
    Fixture :=
  entries.foldl (fun g e => if (s.cueOf e.cue).state = .ready then s.cueGives e.cue (.onShow time) snapped i g else g) f

/-- `s` after the MISSING-CUE notices of entries handed to the PBU whose cue is not READY (R112). -/
def State.missed (s : State) (entries : List TimelineEntry) : State :=
  entries.foldl (fun u e => if (s.cueOf e.cue).state = .ready then u else u.raise (.missingCue e.cue)) s

/-! ### Moves of show time and the lock -/

/-- `t` is `s` after its show time has moved to `time` (R119, R120, R138): a scheduled slip is discarded, the entries passed
are handed to the PBU, snapped by a jump, the cursor counts the entries reached, and a jump is counted and told. -/
def State.movesTo (s t : State) (time : Nat) (jump : Bool) : Prop :=
  let passed := s.entriesPassed time
  let told := s.missed passed
  t = { s with
    scu := { s.scu with showTime := time, lock := s.scu.lock.withSlip none }
    fxe := { s.fxe with fixtures := t.fxe.fixtures }
    pbu := { s.pbu with cursor := (s.pbu.timeline.filter fun e => decide (e.time ≤ time)).length }
    rqd := (if jump then (told.raise (.jump s.scu.showTime time)).count Stats.addJump else told).rqd } ∧
  ∀ i, t.fixture? i = (s.fixture? i).map (s.timelineGives passed time jump i)

/-- `s` with run state `run`, and the RUN notice of a change (R118). -/
def State.ran (s : State) (run : Bool) : State :=
  if s.scu.running = run then s else ({ s with scu := { s.scu with running := run } } : State).raise (.run run)

/-- `t` is `s`, in LOCKED, after consistent mark `m` has acted on the run state and on show time (R131, R132). -/
def State.heeds (s t : State) (m : Mark) : Prop :=
  let e : Int := (m.time : Int) - s.scu.showTime
  let decided : Lock :=
    if (s.scu.jumpThreshold : Int) ≤ e.natAbs then s.scu.lock.withCandidate (some m)
    else if (s.scu.period : Int) ≤ e then s.scu.lock.withSlip (some { skip := true, error := e })
    else if e ≤ -(s.scu.period : Int) then s.scu.lock.withSlip (some { skip := false, error := e })
    else s.scu.lock.withSlip none
  if m.run = true ∧ s.scu.running = true then t = { s with scu := { s.scu with lock := decided } }
  else (s.ran m.run).movesTo t m.time (decide (s.scu.jumpThreshold ≤ e.natAbs))

/-! ### The evaluation -/

/-- The time from a moment to the pass, on the moment's base (R26, R34). -/
def Pass.elapsed (p : Pass) : Moment → Int
  | .onLocal t => (p.localTime - t).toInt
  | .onShow t => (p.showTime : Int) - t

/-- The progress of a transition at the pass: the elapsed time clamped to 0..D, or D once it is held complete (R26). -/
def Pass.progress {α : Type} (p : Pass) (t : Transition α) : Nat :=
  match t.held, t.start with
  | true, .onLocal _ => t.duration
  | _, start => (max 0 (min (t.duration : Int) (p.elapsed start))).toNat

/-- A transition after the pass: complete where its progress is D, and then held where its base is LOCAL (R26, R47). -/
def Pass.seen {α : Type} (p : Pass) (t : Transition α) : Transition α :=
  let full := decide (p.progress t = t.duration)
  { t with complete := full, held := match t.start with | .onLocal _ => t.held || full | .onShow _ => t.held }

/-- The pending transition that the pass promotes: one whose due time it has reached (R34). -/
def Pass.promotes {α : Type} (p : Pass) (x : Option (Pending α)) : Option (Pending α) :=
  x.filter fun y => decide (0 ≤ p.elapsed y.due)

/-- The point a track serves to fixture `i` at local time `t` (R146); `v` is the point. -/
def Track.serves (k : Track) (i : Fin 128) (mount : Point) (t : LocalTime) (v : Point) : Prop :=
  let join := (k.joins.find? fun x => x.1 == i).bind Prod.snd
  match k.queue, k.fromPoint with
  | [], some a => v = a
  | [], none => v = join.getD mount
  | h :: _, a =>
    match a, join with
    | none, none => v = h.point
    | a, join =>
      let o := (a.orElse fun _ => join).getD mount
      let whole := (h.due - k.fromTime.getD t).toInt
      let part := max 0 (min whole (t - k.fromTime.getD t).toInt)
      0 < whole → isHalfAway v.x (o.x * whole + (h.point.x - o.x) * part) whole.toNat ∧
        isHalfAway v.y (o.y * whole + (h.point.y - o.y) * part) whole.toNat ∧
        isHalfAway v.z (o.z * whole + (h.point.z - o.z) * part) whole.toNat

/-! ### What an image can hold -/

/-- The value fits a signed field of four bytes. -/
def fits32 (v : Int) : Prop := -2147483648 ≤ v ∧ v < 2147483648

/-- The value fits a signed field of two bytes. -/
def fits16 (v : Int) : Prop := -32768 ≤ v ∧ v < 32768

/-- An optional slot offset fits its field: 255 stands for none. -/
def offsetFits (o : Option Nat) : Prop := ∀ n, o = some n → n < 255

def Window.fits (w : Window) : Prop := fits32 w.lo ∧ fits32 w.hi

def Rgb.fits (c : Rgb) : Prop := fits16 c.r ∧ fits16 c.g ∧ fits16 c.b

def Point.fits (p : Point) : Prop := fits32 p.x ∧ fits32 p.y ∧ fits32 p.z

def Profile.fits (p : Profile) : Prop :=
  p.footprint < 256 ∧ p.defaults.length = p.footprint ∧
  (∀ o ∈ [p.panCoarse, p.tiltCoarse, p.redCoarse, p.greenCoarse, p.blueCoarse], o < 256) ∧
  (∀ o ∈ [p.panFine, p.tiltFine, p.redFine, p.greenFine, p.blueFine, p.whiteCoarse, p.whiteFine, p.speed], offsetFits o) ∧
  p.panRange.fits ∧ p.tiltRange.fits ∧
  (∀ v ∈ [p.panVmax, p.tiltVmax, p.panAmax, p.tiltAmax], v < 4294967296) ∧
  p.matrixRed.fits ∧ p.matrixGreen.fits ∧ p.matrixBlue.fits ∧
  p.whiteVector.isSome = p.whiteCoarse.isSome ∧
  (∀ w, p.whiteVector = some w → ∀ v ∈ [w.r, w.g, w.b], 0 ≤ v ∧ v < 65536) ∧
  p.defaultWmix ≤ 256

def SavedFixture.fits (f : SavedFixture) : Prop :=
  f.config.start < 65536 ∧ f.config.mount.fits ∧ fits32 f.config.yaw ∧ f.config.panWindow.fits ∧ f.config.tiltWindow.fits ∧
  fits32 f.config.park.pan ∧ fits32 f.config.park.tilt ∧ f.config.parkLevel < 65536 ∧ f.statics.length < 256

/-- Every field of a show image fits the bytes the image gives it. Every accepted table does. -/
def ShowImage.fits (w : ShowImage) : Prop :=
  (∀ (i : Fin 16) (p : Profile), w.profiles[i] = some p → p.fits) ∧
  (∀ (i : Fin 128) (f : SavedFixture), w.fixtures[i] = some f → f.fits) ∧
  (∀ i : Fin 16, (w.zones[i]).x.fits ∧ (w.zones[i]).y.fits ∧ (w.zones[i]).z.fits) ∧
  (∀ i : Fin 8, (w.lines[i]).length < 65536 ∧ (w.lines[i]).minInterval < 65536) ∧
  w.period < 256 ∧ w.markInterval < 256 ∧ w.jumpThreshold < 65536 ∧
  (∀ i : Fin 2, ∀ v ∈ [(w.sticks[i]).centreX, (w.sticks[i]).centreY, (w.sticks[i]).deadBand, (w.sticks[i]).gain,
    (w.sticks[i]).range], v < 65536) ∧
  (∀ (i : Fin 96) (c : SavedCue), w.cues[i] = some c → c.declared < 256 ∧ c.parts.length < 256) ∧
  w.timeline.length < 65536 ∧ (∀ e ∈ w.timeline, e.time < 4294967296)

end Sys2Proof.Machine
end

