-- ==== Sys2Proof/Certificates/Slice0/Obligations.lean ====
section
/-! DEFINITION. The statements for the provers. -/

open Sys2Proof Sys2Proof.Machine

/-! ### The machine -/

/-- A step takes the command at the front of the queue: it is `exec` of that command on the state with the queue's rest. -/
def Obligations.StepRunsFrontCommand : Prop :=
  ∀ (s : State) (c : Instr) (rest : List Instr), s.pending = c :: rest → step s = exec c (s.withPending rest)

/-- Every command answers a next state and leaves the queue of commands as it is, and every step answers a next state: nothing
stops the part (the spec answers a request that cannot be done with a status, R180). -/
def Obligations.EveryCommandCompletes : Prop :=
  (∀ (c : Instr) (s : State), ∃ t : State, exec c s = .next t ∧ t.pending = s.pending) ∧ ∀ s : State, ∃ t : State, step s = .next t

/-- With no command waiting, a step is the part's own: where an event of its own is due, the step is `exec` of the earliest one's
command, of the first in the model's order among those due together; where none is due, time passes to the next event or to the
next millisecond, whichever comes first, and nothing else changes. The model's choice (log entry 1). -/
def Obligations.IdleStepLetsTimePass : Prop :=
  ∀ s : State, s.pending = [] →
    ((∀ e ∈ s.ownEvents, s.scu.timeUs < e.due) →
      ∃ u : Nat, step s = .next { s with scu := { s.scu with timeUs := u } } ∧ s.scu.timeUs < u ∧
        u ≤ (s.scu.timeUs / 1000 + 1) * 1000 ∧ (∀ e ∈ s.ownEvents, u ≤ e.due) ∧
        (u = (s.scu.timeUs / 1000 + 1) * 1000 ∨ ∃ e ∈ s.ownEvents, u = e.due)) ∧
    ∀ (before after : List OwnEvent) (e : OwnEvent), s.ownEvents = before ++ e :: after → e.due ≤ s.scu.timeUs →
      (∀ d ∈ before, e.due < d.due) → (∀ d ∈ after, e.due ≤ d.due) → step s = exec e.command s

/-! ### Start-up, save, RESTART and CLEAR-SHOW -/

/-- Power-on and the RESET pin with no valid image: empty tables, the defaults, IMAGE-INVALID alone in the notice queue, the
unit address of the straps, local clock 0. The pins keep what they present from outside (the model's choice, log entry 17). -/
def Obligations.StartUpWithoutImage : Prop :=
  ∀ (s : State) (straps : BitVec 4), validBody s.ims.flash = none →
    ∃ t : State, exec (.powerOn straps) s = .next t ∧ exec (.resetPin straps) s = .next t ∧
      t.sli = { unitAddress := straps.setWidth 8 + 1, receiver := .hunt, replies := [], sendingSince := 0 } ∧
      t.rqd = { normal := [], urgent := [], inProgress := none, lost := 0, stats := Stats.zero,
                notices := [{ time := 0, notice := .imageInvalid }] } ∧
      (∀ i : Fin 16, t.fxe.profiles[i] = none) ∧ (∀ i : Fin 128, t.fixture? i = none) ∧
      (∀ i : Fin 16, t.fxe.zones[i] = Zone.empty) ∧ t.fxe.pass = none ∧
      t.scu = { timeUs := 0, period := 4, waiting := none, nextExpiry := 4, showTime := 0, running := false,
                markInterval := 40, jumpThreshold := 250, receiver := .hunting, lock := .search } ∧
      (∀ c : Fin 96, t.cueOf c = Cue.blank) ∧ t.pbu.poolFree = 1024 ∧ t.pbu.openBuild = none ∧ t.pbu.timeline = [] ∧
      t.pbu.cursor = 0 ∧ (∀ k : Fin 4, t.tku[k] = Track.unbound) ∧ (∀ i : Fin 2, t.sku.sticks[i] = Stick.default) ∧
      (∀ l : Fin 8, t.lnu[l] = { Line.default with faultInput := (s.lnu[l]).faultInput }) ∧
      t.ims = { saving := none, lastLoadValid := false, flash := s.ims.flash }

/-- Power-on and the RESET pin with a valid image: its contents are loaded whole, every runtime record is reset at local
clock 0, show time stands at 0 and PAUSED, the cursor stands behind the entries at time 0, and each line is armed, or in FAULT
where its fault input is asserted, with its latest image equal to its next image. The next images are rebuilt: the line static
values, with the static slot values of each fixture over its footprint. -/
def Obligations.StartUpLoadsImage : Prop :=
  ∀ (s : State) (straps : BitVec 4) (body : List Byte), validBody s.ims.flash = some body →
    ∃ t : State, exec (.powerOn straps) s = .next t ∧ exec (.resetPin straps) s = .next t ∧
      t.tables = showOf body ∧ t.ims = { saving := none, lastLoadValid := true, flash := s.ims.flash } ∧
      (∀ (i : Fin 128) (f : Fixture), t.fixture? i = some f → f.run = resetRuntime f.config (t.profileOf f.config) 0) ∧
      t.scu.showTime = 0 ∧ t.scu.running = false ∧ t.scu.lock = .search ∧ t.scu.timeUs = 0 ∧
      t.scu.nextExpiry = BitVec.ofNat 32 t.scu.period ∧ t.pbu.cursor = cursorAt t.pbu.timeline 0 ∧
      (∀ l : Fin 8, (t.lnu[l]).latest = (t.lnu[l]).next ∧ (t.lnu[l]).framesSent = 0 ∧
        (t.lnu[l]).mode = (if (s.lnu[l]).faultInput ∧ (t.lnu[l]).armed ≠ .off then .fault else (t.lnu[l]).armed.mode)) ∧
      t.imagesRebuilt

/-- The body of a show image holds the tables whole: reading the body of a show gives that show again. The body layout is the
model's own (log entry 6). -/
def Obligations.ImageBodyRoundTrip : Prop :=
  ∀ w : ShowImage, w.fits → showOf w.body = w

/-- A show saved by SAVE, with a read-back that matches, is what the next power-on loads. -/
def Obligations.SavedShowSurvivesPowerOn : Prop :=
  ∀ (s : State) (q : Request) (straps : BitVec 4), s.serving 0x04 q → q.payload = [] → s.ims.saving = none →
    s.tables.fits → s.tables.body.length ≤ 262144 →
    ∃ t u v : State, exec (.save q) s = .next t ∧ exec (.saveCompletion true) t = .next u ∧ exec (.powerOn straps) u = .next v ∧
      v.tables = s.tables ∧ v.ims.lastLoadValid = true

/-- An accepted SAVE is answered OK at once, the image state becomes SAVING, the flash holds no valid image, and nothing else
changes. The save ends idle: SAVE-DONE with the image in the flash when the read-back matches, else SAVE-FAILED with no valid
image in the flash (the model leaves the area erased, log entry 7); without a save in progress nothing happens (log entry 3). -/
def Obligations.SaveStartsAndCompletes : Prop :=
  ∀ s : State,
    (∀ q : Request, s.serving 0x04 q → q.payload = [] → s.ims.saving = none →
      ∃ image, exec (.save q) s =
        .next (({ s with ims := { s.ims with saving := some image, flash := [] } } : State).answered 0x04 q (.ok []))) ∧
    validBody ([] : List Byte) = none ∧
    (∀ image, s.ims.saving = some image →
      exec (.saveCompletion true) s =
        .next (({ s with ims := { s.ims with saving := none, flash := image } } : State).raise .saveDone) ∧
      ∃ flash, validBody flash = none ∧ exec (.saveCompletion false) s =
        .next (({ s with ims := { s.ims with saving := none, flash := flash } } : State).raise .saveFailed)) ∧
    (s.ims.saving = none → ∀ matched, exec (.saveCompletion matched) s = .next s)

/-- An accepted RESTART: a unicast's reply is built first, then each unicast still waiting in a lane is answered BUSY, in an
order of the lanes that the spec leaves open (log entry 26), and both lanes are empty. The show tables, the READY cues, the
timeline and the settings are kept, an open build is aborted; the runtime records are reset, tracks are UNBOUND, sticks rest,
show time is 0 and PAUSED in SEARCH with the mark receiver hunting; every line takes its armed mode, or enters FAULT where its
fault input is asserted, with its counters set to 0 before, and its images are rebuilt; the notice queue holds the line faults
of this moment and nothing else, and the counters of the RQD are 0. A frame in progress that no fault ends is kept (log entry
29). The step timer, a running pass, the stick inputs, the image state and the flash are kept. -/
def Obligations.RestartResetsTheRunningShow : Prop :=
  ∀ (s : State) (q : Request), s.serving 0x05 q → q.payload = [] → s.ims.saving = none →
    ∃ (t : State) (busy : List Reply), exec (.restart q) s = .next t ∧
      t.sli = { s.sli with replies := t.sli.replies, sendingSince := t.sli.sendingSince } ∧
      t.sli.replies =
        s.sli.replies ++ (if q.broadcast then [] else [{ kind := 0x05, tag := q.tag, payload := [0] }]) ++ busy ∧
      busy.Perm (((s.rqd.normal ++ s.rqd.urgent).filter fun r => !r.request.broadcast).map fun r =>
        { kind := r.kind, tag := r.request.tag, payload := [1] }) ∧
      t.rqd = { normal := [], urgent := [], inProgress := none, notices := t.rqd.notices, lost := 0, stats := Stats.zero } ∧
      (let meetsFault := fun l : Fin 8 => (s.lnu[l]).faultInput = true ∧ (s.lnu[l]).armed ≠ .off
       t.rqd.notices.Perm (((List.finRange 8).filter fun l => decide (meetsFault l)).map fun l =>
          { time := s.localClock, notice := .lineFault l }) ∧
       ∀ l : Fin 8, t.lnu[l] = { s.lnu[l] with
          mode := if meetsFault l then .fault else (s.lnu[l]).armed.mode
          frame := if meetsFault l then none else (s.lnu[l]).frame
          faults := if meetsFault l then 1 else 0
          framesSent := 0, next := (t.lnu[l]).next, latest := (t.lnu[l]).latest }) ∧
      t.imagesRebuilt ∧
      t.fxe = { s.fxe with fixtures := t.fxe.fixtures } ∧
      (∀ (i : Fin 128), t.fixture? i = (s.fixture? i).map fun f =>
        { f with run := resetRuntime f.config (s.profileOf f.config) s.localClock }) ∧
      (∀ c : Fin 96, t.cueOf c = if s.pbu.openBuild.any (fun b => b.cue == c) then Cue.blank else s.cueOf c) ∧
      (s.poolOk → ∀ c : Fin 96, t.cueOf c = if (s.cueOf c).state = .opened then Cue.blank else s.cueOf c) ∧
      t.pbu.poolFree = s.pbu.poolFree + ((s.pbu.openBuild.map fun b => (s.cueOf b.cue).parts.length).getD 0) ∧
      t.pbu.openBuild = none ∧ t.pbu.timeline = s.pbu.timeline ∧ t.pbu.cursor = cursorAt s.pbu.timeline 0 ∧
      (∀ k : Fin 4, t.tku[k] = Track.unbound) ∧
      t.scu = { s.scu with showTime := 0, running := false, lock := .search, receiver := .hunting } ∧
      (∀ i : Fin 2, t.sku.sticks[i] = (s.sku.sticks[i]).rest) ∧ t.sku.inputs = s.sku.inputs ∧ t.ims = s.ims ∧
      t.pending = s.pending

/-- An accepted CLEAR-SHOW empties every table, gives zones, lines and sticks their defaults, and keeps the step timer, the
clock settings, the notice queue, the counters, the flash and a frame in progress; it is answered OK after it takes effect. A line
is OFF at once, also while a frame in progress finishes (log entry 29). -/
def Obligations.ClearShowEmptiesTheTables : Prop :=
  ∀ (s : State) (q : Request), s.serving 0x06 q → q.payload = [] → s.ims.saving = none →
    ∃ t : State, exec (.clearShow q) s = .next (t.answered 0x06 q (.ok [])) ∧
      (∀ i : Fin 16, t.fxe.profiles[i] = none) ∧ (∀ i : Fin 128, t.fixture? i = none) ∧
      (∀ i : Fin 16, t.fxe.zones[i] = Zone.empty) ∧ t.fxe.pass = s.fxe.pass ∧
      (∀ c : Fin 96, t.cueOf c = Cue.blank) ∧ t.pbu.poolFree = 1024 ∧ t.pbu.openBuild = none ∧ t.pbu.timeline = [] ∧
      t.pbu.cursor = 0 ∧ (∀ k : Fin 4, t.tku[k] = Track.unbound) ∧ (∀ i : Fin 2, t.sku.sticks[i] = Stick.default) ∧
      t.scu = { s.scu with showTime := 0, running := false, lock := .search } ∧
      (∀ l : Fin 8, t.lnu[l] = { Line.default with
        frame := (s.lnu[l]).frame, lastStart := (s.lnu[l]).lastStart, framesSent := (s.lnu[l]).framesSent
        faults := (s.lnu[l]).faults, faultInput := (s.lnu[l]).faultInput }) ∧
      t.rqd = s.rqd ∧ t.sli = s.sli ∧ t.ims = s.ims ∧ t.pending = s.pending

/-! ### The show link -/

/-- A frame that travels between two delimiters, escaped and with its CRC, is received as it was sent, whether the
receiver hunts or has met a delimiter already: a unicast to the unit or a broadcast is counted accepted and handed to the RQD
with its kind, tag and payload. -/
def Obligations.FrameTravels : Prop :=
  ∀ (s : State) (address kind tag : Byte) (payload : List Byte),
    s.sli.receiver = .hunt ∨ s.sli.receiver = .collect [] false false → payload.length ≤ 240 →
    address = 0 ∨ address = s.sli.unitAddress →
    exec (.frameReceived (wireFrame (withCrc (address :: kind :: tag :: payload)))) s =
      .next (((s.count Stats.addAccepted).takeIn
        { kind := kind, request := { broadcast := address == 0, tag := tag, payload := payload } }).setReceiver
          (.collect [] false false))

/-- What becomes of a frame that a delimiter ends (R174 to R176): overlong, aborted, empty, short, damaged, or for another
address; each counted where its rule says, and the next buffer opened. That an escape before the delimiter counts short also
with an empty buffer is the model's reading (log entry 8). -/
def Obligations.DelimiterJudgesFrame : Prop :=
  ∀ (s : State) (buffer : List Byte) (escaped overlong : Bool), s.sli.receiver = .collect buffer escaped overlong →
    ∃ u : State, exec (.frameReceived [0xC5]) s = .next (u.setReceiver (.collect [] false false)) ∧
      (overlong = true → u = s.count Stats.addOverlong) ∧
      (overlong = false → escaped = true → u = s.count Stats.addShort) ∧
      (overlong = false → escaped = false → buffer = [] → u = s) ∧
      (overlong = false → escaped = false → 1 ≤ buffer.length → buffer.length ≤ 4 → u = s.count Stats.addShort) ∧
      (overlong = false → escaped = false → 5 ≤ buffer.length → crc16 buffer ≠ 0 → u = s.count Stats.addCrc) ∧
      (overlong = false → escaped = false → 5 ≤ buffer.length → crc16 buffer = 0 → buffer.getD 0 0 ≠ 0 →
        buffer.getD 0 0 ≠ s.sli.unitAddress → u = s)

/-- In HUNT every byte but the delimiter is discarded. A frame of more than 245 content bytes is counted overlong at its end,
whatever it holds and however much of it is escaped. A byte with a bad stop bit abandons the frame being collected, counted
short, or overlong where it had grown beyond 245 bytes, and the receiver hunts. That a bad stop bit counts short also with an
empty buffer is the model's reading (log entry 8). -/
def Obligations.BrokenFramesAreCounted : Prop :=
  ∀ s : State,
    (∀ bytes : List Byte, s.sli.receiver = .hunt → (∀ b ∈ bytes, b ≠ 0xC5) → exec (.frameReceived bytes) s = .next s) ∧
    (∀ content : List Byte, s.sli.receiver = .hunt ∨ s.sli.receiver = .collect [] false false → 245 < content.length →
      exec (.frameReceived (wireFrame content)) s =
        .next ((s.count Stats.addOverlong).setReceiver (.collect [] false false))) ∧
    (s.sli.receiver = .hunt → exec .frameAbandoned s = .next s) ∧
    ∀ (buffer : List Byte) (escaped overlong : Bool), s.sli.receiver = .collect buffer escaped overlong →
      exec .frameAbandoned s =
        .next ((s.count (if overlong then Stats.addOverlong else Stats.addShort)).setReceiver .hunt)

/-- While another request is in progress, a request of any kind is handed over and has none of its effects (R178): a unicast
without a reply place is discarded and counted, one whose lane is full is refused BUSY, a broadcast whose lane is full is
dropped with its notice, and any other request joins the tail of its lane. -/
def Obligations.RequestWaitsInItsLane : Prop :=
  ∀ (kind : Byte) (q : Request) (adc : Readings) (s : State) (r0 : LinkRequest), s.rqd.inProgress = some r0 →
    r0 ≠ { kind := kind, request := q } →
    let r : LinkRequest := { kind := kind, request := q }
    let urgent := 0x28 ≤ kind.toNat ∧ kind.toNat ≤ 0x2C
    let room := if urgent then s.rqd.urgent.length < 4 else s.rqd.normal.length < 8
    let c := commandOf kind q adc
    (q.broadcast = false → 16 ≤ s.placesHeld → exec c s = .next (s.count Stats.addBusy)) ∧
    (q.broadcast = false → s.placesHeld < 16 → ¬room →
      exec c s = .next ((s.count Stats.addBusy).pushReply { kind := kind, tag := q.tag, payload := [1] })) ∧
    (q.broadcast = true → ¬room → exec c s = .next ((s.count Stats.addDropped).raise (.broadcastDropped kind q.tag))) ∧
    (q.broadcast = true ∨ s.placesHeld < 16 → room →
      exec c s = .next { s with rqd :=
        (if urgent then { s.rqd with urgent := s.rqd.urgent ++ [r] } else { s.rqd with normal := s.rqd.normal ++ [r] }) })

/-- When a request completes, a unicast's reply (kind, tag, status, data) joins the reply queue and a broadcast's does not; the
RQD then begins the head of the urgent lane, or of the normal lane when the urgent lane is empty; nothing else changes. The
transmitter finishes its reply 5 µs a byte after the reply began (the model's choice, log entry 16): the reply's place is free,
and the next one begins then; without a reply nothing happens (log entry 3). -/
def Obligations.RepliesAndServiceGoInOrder : Prop :=
  ∀ s : State,
    (∀ (r : LinkRequest) (a : Answer),
      (s.complete r a).sli.replies = (if r.request.broadcast then s.sli.replies
        else s.sli.replies ++ [{ kind := r.kind, tag := r.request.tag, payload := statusByte a.status :: a.data }]) ∧
      (s.complete r a).rqd =
        (match s.rqd.urgent, s.rqd.normal with
          | u :: us, _ => { s.rqd with inProgress := some u, urgent := us }
          | [], n :: ns => { s.rqd with inProgress := some n, normal := ns }
          | [], [] => { s.rqd with inProgress := none }) ∧
      s.complete r a = { s with sli := (s.complete r a).sli, rqd := (s.complete r a).rqd } ∧
      (s.complete r a).sli = { s.sli with
        replies := (s.complete r a).sli.replies, sendingSince := (s.complete r a).sli.sendingSince }) ∧
    (∀ (r : Reply) (rest : List Reply), s.sli.replies = r :: rest →
      let done := max s.scu.timeUs (s.sli.sendingSince + 5 * (r.wire s.sli.unitAddress).length)
      exec .replySent s =
        .next { s with scu := { s.scu with timeUs := done }, sli := { s.sli with replies := rest, sendingSince := done } }) ∧
    (s.sli.replies = [] → exec .replySent s = .next s)

/-- The checks common to the requests: a kind byte that is not in Table 33 is refused UNKNOWN-KIND, whatever its length; a wrong
payload length BAD-LENGTH; after it, every request of Table 40 SAVING while the image state is SAVING. A refused request
changes nothing. -/
def Obligations.CommonChecksRefuse : Prop :=
  ∀ (kind : Byte) (q : Request) (adc : Readings) (s : State), s.serving kind q →
    (isKnownKind kind = false → exec (.unknownKind kind q) s = .next (s.answered kind q (.refuse .unknownKind))) ∧
    (isKnownKind kind = true → payloadLengthOk kind q.payload = false →
      exec (commandOf kind q adc) s = .next (s.answered kind q (.refuse .badLength))) ∧
    (kind ∈ savingKinds → payloadLengthOk kind q.payload = true → s.ims.saving.isSome = true →
      exec (commandOf kind q adc) s = .next (s.answered kind q (.refuse .saving)))

/-- The lanes, the notice queue and the reply queue keep their bounds at every step, and while a request waits, one is in
progress. -/
def Obligations.LinkStaysBounded : Prop :=
  ∀ (s t : State), s.linkBounded → s.serviceOk → step s = .next t → t.linkBounded ∧ t.serviceOk

/-- The state after reset meets the invariants of the link, the fixtures, the pool, the timeline, the lock and the tracks. -/
def Obligations.ResetMeetsInvariants : Prop :=
  State.reset.linkBounded ∧ State.reset.serviceOk ∧ State.reset.fixturesOk ∧ State.reset.poolOk ∧ State.reset.timelineOk ∧
    State.reset.lockOk ∧ State.reset.tracksOk

/-- A raised notice joins the tail of the queue with the local clock; a full queue discards and counts it, and the lost count
stays at 65535 once there. -/
def Obligations.NoticesQueueOrAreLost : Prop :=
  ∀ (s : State) (n : Notice),
    (s.rqd.notices.length < 32 → s.raise n =
      { s with rqd := { s.rqd with notices := s.rqd.notices ++ [{ time := s.localClock, notice := n }] } }) ∧
    (32 ≤ s.rqd.notices.length → ∃ lost, s.raise n =
      { s with rqd := { s.rqd with lost := lost, stats := { s.rqd.stats with lostNotices := s.rqd.stats.lostNotices + 1 } } } ∧
      (s.rqd.lost < 65535 → lost = s.rqd.lost + 1) ∧ (s.rqd.lost = 65535 → lost = 65535))

/-- NOTICE-POLL takes up to 8 notices from the head of the queue and clears the lost count; a broadcast removes nothing.
STATS answers the 29 counters and clears them on request. -/
def Obligations.PollAndStats : Prop :=
  ∀ (s : State) (q : Request),
    (s.serving 0x02 q → q.payload = [] → q.broadcast = false →
      ∃ records, exec (.noticePoll q) s =
        .next (({ s with rqd := { s.rqd with notices := s.rqd.notices.drop 8, lost := 0 } } : State).answered 0x02 q
          (.ok ([byteOf (min 8 s.rqd.notices.length), byteOf (s.rqd.notices.length - min 8 s.rqd.notices.length)] ++
            be16 s.rqd.lost ++ records))) ∧
        records = (s.rqd.notices.take 8).flatMap NoticeRecord.bytes) ∧
    (s.serving 0x02 q → q.payload = [] → q.broadcast = true → exec (.noticePoll q) s = .next (s.answered 0x02 q (.ok []))) ∧
    (s.serving 0x03 q → q.payload = [0] →
      exec (.stats q) s = .next (s.answered 0x03 q (.ok (s.counters.flatMap wordBytes)))) ∧
    (s.serving 0x03 q → q.payload = [1] →
      ∃ t : State, exec (.stats q) s = .next (t.answered 0x03 q (.ok (s.counters.flatMap wordBytes))) ∧
        t = { s with rqd := { s.rqd with stats := Stats.zero }, lnu := t.lnu } ∧ (∀ c ∈ t.counters, c = 0) ∧
        ∀ l : Fin 8, t.lnu[l] = { s.lnu[l] with framesSent := 0, faults := 0 })

/-- The queries and reads answer their data and change nothing. -/
def Obligations.ReadsChangeNothing : Prop :=
  ∀ (s : State) (q : Request),
    (s.serving 0x01 q → q.payload = [] → exec (.unitQuery q) s =
      .next (s.answered 0x01 q (.ok
        [s.sli.unitAddress, 1, if s.ims.saving.isSome then 1 else 0, if s.ims.lastLoadValid then 0 else 1]))) ∧
    (∀ (i : Fin 16) (p : Profile), s.serving 0x12 q → q.payload = [byteOf i.val] → s.fxe.profiles[i] = some p →
      exec (.profileRead q) s = .next (s.answered 0x12 q (.ok p.bytes))) ∧
    (∀ (i : Fin 128) (f : Fixture), s.serving 0x16 q → q.payload = [byteOf i.val] → s.fixture? i = some f →
      exec (.fixtureRead q) s = .next (s.answered 0x16 q
        (.ok (f.config.bytes ++ groupBytes f.groups ++ [byteOf f.statics.length] ++ f.statics)))) ∧
    (∀ (g : Fin 32), s.serving 0x18 q → q.payload = [byteOf g.val] →
      exec (.groupRead q) s = .next (s.answered 0x18 q (.ok (mapBytes 16 (s.memberMap g.val))))) ∧
    (∀ (i : Fin 16), s.serving 0x1A q → q.payload = [byteOf i.val] →
      exec (.zoneRead q) s = .next (s.answered 0x1A q (.ok (s.fxe.zones[i]).bytes))) ∧
    (∀ (i : Fin 128) (f : Fixture), s.serving 0x23 q → q.payload = [byteOf i.val] → s.fixture? i = some f →
      exec (.fixtureQuery q) s = .next (s.answered 0x23 q (.ok f.run.queryData))) ∧
    (∀ (c : Fin 96) (first : Byte), s.serving 0x33 q → q.payload = [byteOf c.val, first] → first.toNat ≤ 63 →
      exec (.cueRead q) s = .next (s.answered 0x33 q (.ok ([cueStateCode (s.cueOf c).state, byteOf (s.cueOf c).declared,
        byteOf (s.cueOf c).parts.length] ++ be16 s.pbu.poolFree ++
        (((s.cueOf c).parts.drop first.toNat).take 6).flatMap PartRecord.bytes)))) ∧
    (s.serving 0x3A q → q.payload = [] → exec (.clockQuery q) s = .next (s.answered 0x3A q (.ok s.clockData))) ∧
    (∀ first : Byte, s.serving 0x3D q → q.payload = [first] →
      exec (.timelineRead q) s = .next (s.answered 0x3D q (.ok (be16 s.pbu.timeline.length ++ be16 s.pbu.cursor ++
        [byteOf ((s.pbu.timeline.drop first.toNat).take 32).length] ++
        ((s.pbu.timeline.drop first.toNat).take 32).flatMap fun e => be32 e.time ++ [byteOf e.cue.val])))) ∧
    (∀ k : Fin 4, s.serving 0x43 q → q.payload = [byteOf k.val] →
      exec (.trackQuery q) s = .next (s.answered 0x43 q (.ok ((s.tku[k]).queryData (s.members k).length)))) ∧
    (∀ i : Fin 2, s.serving 0x4C q → q.payload = [byteOf i.val] →
      exec (.stickQuery q) s = .next (s.answered 0x4C q (.ok (s.sku.sticks[i]).queryData))) ∧
    (∀ l : Fin 8, s.serving 0x53 q → q.payload = [byteOf l.val] →
      exec (.lineQuery q) s = .next (s.answered 0x53 q (.ok ((s.lnu[l]).queryData (s.fixturesOn l).length)))) ∧
    (∀ (l : Fin 8) (slot n : Nat) (static : Bool), s.serving 0x54 q →
      q.payload = [byteOf l.val] ++ be16 slot ++ [byteOf n, boolByte static] → 1 ≤ slot → 1 ≤ n → n ≤ 200 →
      slot + n - 1 ≤ 512 →
      exec (.lineImage q) s = .next (s.answered 0x54 q
        (.ok (readSlots (if static then (s.lnu[l]).statics else (s.lnu[l]).latest) (slot - 1) n))))

/-! ### Tables of the fixture engine -/

/-- PROFILE-REMOVE refuses a number above 15 BAD-VALUE, an undefined profile NO-SUCH and a profile in use IN-USE; otherwise
the profile becomes undefined. -/
def Obligations.ProfileRemoveChecks : Prop :=
  ∀ (s : State) (q : Request) (b : Byte), s.serving 0x11 q → s.ims.saving = none → q.payload = [b] →
    (15 < b.toNat → exec (.profileRemove q) s = .next (s.answered 0x11 q (.refuse .badValue))) ∧
    ∀ n : Fin 16, b.toNat = n.val →
      (s.fxe.profiles[n] = none → exec (.profileRemove q) s = .next (s.answered 0x11 q (.refuse .noSuch))) ∧
      ((s.fxe.profiles[n]).isSome = true → (∃ i f, s.fixture? i = some f ∧ f.config.profile = n) →
        exec (.profileRemove q) s = .next (s.answered 0x11 q (.refuse .inUse))) ∧
      ((s.fxe.profiles[n]).isSome = true → (∀ i f, s.fixture? i = some f → f.config.profile ≠ n) →
        exec (.profileRemove q) s =
          .next (({ s with fxe := { s.fxe with profiles := s.fxe.profiles.set n none } } : State).answered 0x11 q (.ok [])))

/-- An accepted FIXTURE-DEFINE: the fixture has the configuration sent, keeps its group set when it was defined, takes the
static slot values of its profile and a reset runtime record; its next image holds the static slot values over the footprint
and the line static values over the part of an earlier footprint it leaves; every other fixture, image and block is kept. -/
def Obligations.FixtureDefineSetsUpFixture : Prop :=
  ∀ (s : State) (q : Request) (i : Fin 128) (prof : Profile),
    let c := configOf (q.payload.drop 1)
    s.serving 0x13 q → s.ims.saving = none → q.payload.length = 48 → u8 q.payload 0 = i.val → u8 q.payload 1 < 8 →
    u8 q.payload 4 < 16 → u8 q.payload 17 < 2 → 1 ≤ c.start → c.start ≤ 512 → c.mount.inStage → -131072 ≤ c.yaw →
    c.yaw ≤ 131072 → s.fxe.profiles[c.profile] = some prof → prof.defaults.length = prof.footprint →
    (s.lnu[c.line]).mode = .frame → c.panWindow.inside prof.panRange → c.tiltWindow.inside prof.tiltRange →
    c.panWindow.holds c.park.pan → c.tiltWindow.holds c.park.tilt →
    c.start + prof.footprint - 1 ≤ (s.lnu[c.line]).length - (if (s.lnu[c.line]).check = .none then 0 else 1) →
    (∀ j g, j ≠ i → s.fixture? j = some g → g.config.line = c.line →
      disjointSlots c.start prof.footprint g.config.start (s.footprint g.config)) →
    ∃ t : State, exec (.fixtureDefine q) s = .next (t.answered 0x13 q (.ok [])) ∧
      t = { s with fxe := { s.fxe with fixtures := t.fxe.fixtures }, lnu := t.lnu } ∧
      (∀ j, j ≠ i → t.fixture? j = s.fixture? j) ∧
      t.fixture? i = some
        { config := c, groups := ((s.fixture? i).map Fixture.groups).getD 0, statics := prof.defaults
          run := resetRuntime c prof s.localClock } ∧
      s.nextImages t fun l k =>
        if l = c.line ∧ covers c.start prof.footprint k then prof.defaults.getD (k - (c.start - 1)) 0
        else if (s.fixture? i).any (fun f => l == f.config.line && covers f.config.start (s.footprint f.config) k)
        then (s.lnu[l]).statics.getD k 0
        else (s.lnu[l]).next.getD k 0

/-- An accepted FIXTURE-REMOVE leaves the fixture undefined and gives its footprint in the next image the line static values.
An accepted FIXTURE-SLOTS replaces the static slot values at the offsets it lists, and in the next image the slots of those
offsets that the slot map does not name. Every other fixture, image and block is kept. -/
def Obligations.FixtureRemoveAndSlots : Prop :=
  ∀ (s : State) (q : Request) (i : Fin 128) (f : Fixture), s.fixture? i = some f → s.ims.saving = none →
    (s.serving 0x14 q → q.payload = [byteOf i.val] →
      ∃ t : State, exec (.fixtureRemove q) s = .next (t.answered 0x14 q (.ok [])) ∧
        t = { s with fxe := { s.fxe with fixtures := s.fxe.fixtures.set i none }, lnu := t.lnu } ∧
        s.nextImages t fun l k =>
          if l = f.config.line ∧ covers f.config.start (s.footprint f.config) k then (s.lnu[l]).statics.getD k 0
          else (s.lnu[l]).next.getD k 0) ∧
    ∀ (o : Nat) (values : List Byte), s.serving 0x15 q → q.payload = [byteOf i.val, byteOf o, byteOf values.length] ++ values →
      1 ≤ values.length → values.length ≤ 48 → o + values.length ≤ s.footprint f.config → s.footprint f.config ≤ 48 →
      f.statics.length = s.footprint f.config → 1 ≤ f.config.start →
      ∃ (t : State) (g : Fixture), exec (.fixtureSlots q) s = .next (t.answered 0x15 q (.ok [])) ∧
        t = { s with fxe := { s.fxe with fixtures := s.fxe.fixtures.set i (some g) }, lnu := t.lnu } ∧
        g = { f with statics := g.statics } ∧
        g.statics = f.statics.take o ++ values ++ f.statics.drop (o + values.length) ∧
        s.nextImages t fun l k =>
          if l = f.config.line ∧ covers (f.config.start + o) values.length k ∧
              k - (f.config.start - 1) ∉ (s.profileOf f.config).mapped
          then values.getD (k - (f.config.start + o - 1)) 0 else (s.lnu[l]).next.getD k 0

/-- An accepted PROFILE-LOAD stores the profile it carries. An accepted GROUP-SET makes exactly the fixtures of its member map
members of the group, and changes no other group and no other part of a fixture. An accepted ZONE-SET replaces one zone whole.
Nothing else changes. -/
def Obligations.ProfilesGroupsAndZonesAreSet : Prop :=
  ∀ (s : State) (q : Request), s.ims.saving = none →
    (∀ n : Fin 16, s.serving 0x10 q → (∀ i f, s.fixture? i = some f → f.config.profile ≠ n) → u8 q.payload 0 = n.val →
      profileAccepted q.payload → exec (.profileLoad q) s =
        .next (({ s with fxe := { s.fxe with
          profiles := s.fxe.profiles.set n (some (profileOf (q.payload.drop 1))) } } : State).answered 0x10 q (.ok []))) ∧
    (∀ g : Fin 32, s.serving 0x17 q → q.payload.length = 17 → u8 q.payload 0 = g.val →
      (∀ i : Fin 128, (mapField q.payload 1 16).testBit i.val = true → (s.fixture? i).isSome = true) →
      ∃ t : State, exec (.groupSet q) s = .next (t.answered 0x17 q (.ok [])) ∧
        t = { s with fxe := { s.fxe with fixtures := t.fxe.fixtures } } ∧
        ∀ (i : Fin 128), (s.fixture? i = none → t.fixture? i = none) ∧
          ∀ f, s.fixture? i = some f → ∃ f', t.fixture? i = some f' ∧ f' = { f with groups := f'.groups } ∧
            f'.groups.getLsbD g.val = (mapField q.payload 1 16).testBit i.val ∧
            ∀ h : Fin 32, h ≠ g → f'.groups.getLsbD h.val = f.groups.getLsbD h.val) ∧
    ∀ (i : Fin 16) (z : Zone), s.serving 0x19 q → q.payload = byteOf i.val :: z.bytes →
      (∀ w ∈ [z.x, z.y, z.z], w.lo ≤ w.hi) → Point.inStage ⟨z.x.lo, z.y.lo, z.z.lo⟩ →
      Point.inStage ⟨z.x.hi, z.y.hi, z.z.hi⟩ →
      exec (.zoneSet q) s =
        .next (({ s with fxe := { s.fxe with zones := s.fxe.zones.set i z } } : State).answered 0x19 q (.ok []))

/-- With no image load, a defined fixture keeps naming a defined profile, with its soft windows in the mechanical ranges and
its park and commanded angles in the soft windows. -/
def Obligations.CommandedAnglesStayInWindows : Prop :=
  ∀ s t : State, (∀ c ∈ s.pending, c.loadsImage = false) → s.fixturesOk → step s = .next t →
    t.fixturesOk ∧ ∀ c ∈ t.pending, c.loadsImage = false

/-! ### Transitions and overrides -/

/-- AIM, TINT and LEVEL start a DIRECT transition at the local clock on each fixture the selector names, with the fade, the
shape and the target sent; they change no other fixture and nothing else. -/
def Obligations.DirectRequestsStartTransitions : Prop :=
  ∀ (s : State) (q : Request) (sel : Selector), selectorField q.payload = some sel →
    (∀ n, sel = .fixture n → s.isDefined n = true) →
    (∀ a, s.serving 0x20 q → q.payload.length = 20 → aimField q.payload 2 = some a → u8 q.payload 19 < 2 →
      ∃ t : State, exec (.aim q) s = .next (t.answered 0x20 q (.ok [byteOf (s.numberNamed sel)])) ∧
        s.fixturesChanged t fun i f => if sel.names i f then
          { f with run := { f.run with
            aim := aimStart f .direct (.onLocal s.localClock) a (u32 q.payload 15)
              (if u8 q.payload 19 = 0 then .linear else .ease) } } else f) ∧
    (s.serving 0x21 q → q.payload.length = 16 → u8 q.payload 8 < 2 → u8 q.payload 15 < 2 →
      ∃ t : State, exec (.tint q) s = .next (t.answered 0x21 q (.ok [byteOf (s.numberNamed sel)])) ∧
        s.fixturesChanged t fun i f => if sel.names i f then
          { f with run := { f.run with colour :=
            { source := .direct, start := .onLocal s.localClock, fromValue := f.run.colourPresent
              toValue := { r := u16 q.payload 2, g := u16 q.payload 4, b := u16 q.payload 6
                           wmix := if u8 q.payload 8 = 1 then (s.profileOf f.config).defaultWmix
                             else min (u16 q.payload 9) 256 }
              duration := min (u32 q.payload 11) 600000, shape := if u8 q.payload 15 = 0 then .linear else .ease
              held := false, complete := false } } } else f) ∧
    (s.serving 0x22 q → q.payload.length = 9 → u8 q.payload 8 < 2 →
      ∃ t : State, exec (.level q) s = .next (t.answered 0x22 q (.ok [byteOf (s.numberNamed sel)])) ∧
        s.fixturesChanged t fun i f => if sel.names i f then
          { f with run := { f.run with level :=
            { source := .direct, start := .onLocal s.localClock, fromValue := f.run.levelPresent, toValue := u16 q.payload 2
              duration := min (u32 q.payload 4) 600000, shape := if u8 q.payload 8 = 0 then .linear else .ease
              held := false, complete := false } } } else f)

/-- A new aim transition: point space from a point-type aim to a POINT target, angle space to an ANGLES target or from an
angle-type aim, with the aim solution as to value for a POINT target. -/
def Obligations.AimTransitionSpaces : Prop :=
  ∀ (f : Fixture) (source : Source) (m : Moment) (d : Nat) (sh : Shape),
    (∀ p t, f.run.aimPresent = .point p → aimStart f source m (.point t) d sh =
      { core := { source := source, start := m, fromValue := .point p, toValue := .point t, duration := min d 600000
                  shape := sh, held := false, complete := false }
        space := .pointSpace, reachMark := false, target := none }) ∧
    (∀ a, aimStart f source m (.angles a) d sh =
      { core := { source := source, start := m, fromValue := .angles f.run.desired, toValue := .angles a
                  duration := min d 600000, shape := sh, held := false, complete := false }
        space := .angleSpace, reachMark := false, target := none }) ∧
    ∀ t a sol, f.run.aimPresent = .angles a → solve f.config t f.run.desired.pan = some sol →
      aimStart f source m (.point t) d sh =
        { core := { source := source, start := m, fromValue := .angles f.run.desired, toValue := .angles sol.angles
                    duration := min d 600000, shape := sh, held := false, complete := false }
          space := .angleSpace, reachMark := sol.fallback, target := some t }

/-- PARK, STOP, DOUSE and RELEASE set and clear their overrides on each fixture the selector names, and change nothing
else. -/
def Obligations.OverridesFollowRequests : Prop :=
  ∀ (s : State) (q : Request) (sel : Selector), selectorField q.payload = some sel →
    (∀ n, sel = .fixture n → s.isDefined n = true) →
    (s.serving 0x28 q → q.payload.length = 2 →
      ∃ t : State, exec (.park q) s = .next (t.answered 0x28 q (.ok [byteOf (s.numberNamed sel)])) ∧
        s.fixturesChanged t fun i f => if sel.names i f then { f with run := { f.run with parked := true } } else f) ∧
    (s.serving 0x29 q → q.payload.length = 2 →
      ∃ t : State, exec (.stop q) s = .next (t.answered 0x29 q (.ok [byteOf (s.numberNamed sel)])) ∧
        s.fixturesChanged t fun i f => if sel.names i f then
          { f with run := { f.run with stopped := some f.run.commanded, velocity := ⟨0, 0⟩ } } else f) ∧
    (s.serving 0x2A q → q.payload.length = 2 →
      ∃ t : State, exec (.douse q) s = .next (t.answered 0x2A q (.ok [byteOf (s.numberNamed sel)])) ∧
        s.fixturesChanged t fun i f => if sel.names i f then { f with run := { f.run with doused := true } } else f) ∧
    ∀ kind < 4, s.serving 0x2B q → q.payload.length = 3 → u8 q.payload 2 = kind →
      ∃ t : State, exec (.release q) s = .next (t.answered 0x2B q (.ok [byteOf (s.numberNamed sel)])) ∧
        s.fixturesChanged t fun i f => if sel.names i f then
          { f with run := { f.run with
              parked := if kind = 0 ∨ kind = 3 then false else f.run.parked
              stopped := if kind = 1 ∨ kind = 3 then none else f.run.stopped
              doused := if kind = 2 ∨ kind = 3 then false else f.run.doused } } else f

/-- The value of a transition lies between its from and to values at every progress, begins at the one and ends at the other,
and both shapes agree half way. -/
def Obligations.FadeStaysBetweenItsEnds : Prop :=
  ∀ (sh : Shape) (d k : Nat) (a b : Int), 0 < d → k ≤ d →
    min a b ≤ interpolate sh d k a b ∧ interpolate sh d k a b ≤ max a b ∧ interpolate sh d 0 a b = a ∧
    interpolate sh d d a b = b ∧ interpolate sh 0 k a b = b ∧
    (d = 2 * k → interpolate .ease d k a b = interpolate .linear d k a b)

/-! ### Aim solution, counts and the limiter -/

/-- The aim solution over every candidate φ0 + 32768·j: inside the windows the candidate chosen first by R17, else the clamp of
one with the least violation, chosen first by R17 among equals. -/
def Obligations.AimSolutionIsBestCandidate : Prop :=
  ∀ (base theta : Int) (pan tilt : Window) (ref : Int), pan.lo ≤ pan.hi → tilt.lo ≤ tilt.hi →
    let cand := fun j : Int => ({ pan := base + j * 32768, tilt := if j % 2 = 0 then theta else -theta } : Angles)
    let inside := fun c : Angles => pan.holds c.pan ∧ tilt.holds c.tilt
    let before := fun c d : Angles =>
      (c.pan - ref).natAbs < (d.pan - ref).natAbs ∨
        (c.pan - ref).natAbs = (d.pan - ref).natAbs ∧
          ((0 ≤ c.tilt ∧ d.tilt < 0) ∨ ((0 ≤ c.tilt ↔ 0 ≤ d.tilt) ∧ c.pan < d.pan))
    let sol := chooseSolution base theta pan tilt ref
    (sol.fallback = false ↔ ∃ j, inside (cand j)) ∧
    (sol.fallback = false → ∃ j, sol.angles = cand j ∧ inside (cand j) ∧
      ∀ i, i ≠ j → inside (cand i) → before (cand j) (cand i)) ∧
    (sol.fallback = true → ∃ j,
      sol.angles = { pan := clampTo pan.lo pan.hi (cand j).pan, tilt := clampTo tilt.lo tilt.hi (cand j).tilt } ∧
      ∀ i, i ≠ j → violationSum pan tilt (cand j) < violationSum pan tilt (cand i) ∨
        violationSum pan tilt (cand j) = violationSum pan tilt (cand i) ∧ before (cand j) (cand i))

/-- Counts run from 0 at the lower end of the mechanical range to 65535 at the upper, rise with the angle, and are the whole
number nearest the exact share of the range. -/
def Obligations.CountsSpanTheRange : Prop :=
  ∀ (w : Window) (a b : Int), w.lo < w.hi → w.holds a → w.holds b →
    countsOf w w.lo = 0 ∧ countsOf w w.hi = 65535 ∧ countsOf w a ≤ 65535 ∧ (a ≤ b → countsOf w a ≤ countsOf w b) ∧
    2 * ((countsOf w a : Int) * (w.hi - w.lo) - (a - w.lo) * 65535).natAbs ≤ (w.hi - w.lo).toNat

/-- One step of the limiter: the new commanded angle lies in the window and has moved by at most vstep, the new velocity lies
within vstep, order 3 changes a velocity within vstep by at most astep, and an axis at rest on its desired angle stays. The
step limits are at least 1, and at most 10485 and 1677 over the profile ranges and the step periods. -/
def Obligations.LimiterKeepsItsLimits : Prop :=
  (∀ (vs as : Nat) (w : Window) (c v d : Int), w.lo ≤ w.hi →
    w.holds (slew vs as w c v d).1 ∧ (slew vs as w c v d).2.natAbs ≤ vs ∧
    (w.holds c → ((slew vs as w c v d).1 - c).natAbs ≤ vs) ∧
    (v.natAbs ≤ vs → (slewVelocity vs as c v d - v).natAbs ≤ as) ∧
    (w.holds d → slew vs as w d 0 d = (d, 0))) ∧
  ∀ vmax amax period : Nat, period ∈ [2, 4, 5, 8, 10] → vmax ≤ 1048576 → amax ≤ 16777216 →
    vstep vmax period = max 1 (vmax * period / 1000) ∧ 1 ≤ vstep vmax period ∧ vstep vmax period ≤ 10485 ∧
    astep amax period = max 1 (amax * period ^ 2 / 1000000) ∧ 1 ≤ astep amax period ∧ astep amax period ≤ 1677

/-! ### Zones -/

/-- A point is inside a box when it lies strictly between its faces; a box with two equal faces has no inside. -/
def Obligations.ZoneInsideIsStrict : Prop :=
  ∀ (z : Zone) (p : Point),
    (z.contains p = true ↔ z.x.lo < p.x ∧ p.x < z.x.hi ∧ z.y.lo < p.y ∧ p.y < z.y.hi ∧ z.z.lo < p.z ∧ p.z < z.z.hi) ∧
    (z.x.lo = z.x.hi ∨ z.y.lo = z.y.hi ∨ z.z.lo = z.z.hi → z.contains p = false) ∧
    (z.contains p = true → ∀ d ∈ (z.faces p).map Prod.fst, 1 ≤ d)

/-- A CLAMP zone moves a point inside its box to the nearest face, the first in order where several are nearest, so that it is
no longer inside; it sets CLAMPED. A point outside, or a zone that does not apply or is not CLAMP, leaves the point alone. -/
def Obligations.ClampZoneMovesToNearestFace : Prop :=
  ∀ (z : Zone) (p : Point) (groups : BitVec 32) (flag : Bool),
    (z.contains p = true → z.applies groups = true → z.mode = .clamp →
      clampStage groups [z] (p, flag) = (z.push p, true)) ∧
    (z.contains p = false ∨ z.applies groups = false ∨ z.mode = .blank → clampStage groups [z] (p, flag) = (p, flag)) ∧
    (z.contains p = true → z.contains (z.push p) = false ∧
      ∃ i : Fin 6,
        let dist := [p.x - z.x.lo, z.x.hi - p.x, p.y - z.y.lo, z.y.hi - p.y, p.z - z.z.lo, z.z.hi - p.z]
        z.push p = [{ p with x := z.x.lo }, { p with x := z.x.hi }, { p with y := z.y.lo }, { p with y := z.y.hi },
          { p with z := z.z.lo }, { p with z := z.z.hi }].getD i.val p ∧
        ∀ j : Fin 6, dist.getD i.val 0 ≤ dist.getD j.val 0 ∧ (j < i → dist.getD i.val 0 < dist.getD j.val 0))

/-- The zones of an evaluation: the CLAMP stage starts from the point with the x and y offsets of every stick that applies, and
takes the zones in order, each from the point the zones before it have left; BLANKED is set exactly when the point the stage
leaves lies inside an applying zone of either mode. A stick applies to the members of its group, and a zone when it is enabled
and its group set is empty or shares a group with the fixture. -/
def Obligations.ZoneCheckBlanksInside : Prop :=
  ∀ (zones : List Zone) (sticks : List Stick) (groups : BitVec 32) (p : Point),
    let check := zoneCheck zones sticks groups p
    let applying := sticks.filter fun k => k.appliesTo groups
    (∀ k ∈ sticks, k.appliesTo groups = true ↔ ∃ g : Fin 32, k.group = some g ∧ groups.getLsbD g.val = true) ∧
    addSticks sticks groups p =
      { x := p.x + (applying.map Stick.offsetX).sum, y := p.y + (applying.map Stick.offsetY).sum, z := p.z } ∧
    (check.point, check.clamped) = clampStage groups zones (addSticks sticks groups p, false) ∧
    (∀ moved, clampStage groups [] (p, moved) = (p, moved)) ∧
    (∀ (z : Zone) (rest : List Zone) (moved : Bool), clampStage groups (z :: rest) (p, moved) =
      clampStage groups rest
        (if z.applies groups = true ∧ z.mode = .clamp ∧ z.contains p = true then (z.push p, true) else (p, moved))) ∧
    (∀ z ∈ zones, z.applies groups = true ↔
      z.enabled = true ∧ (z.groups = 0 ∨ ∃ g : Fin 32, z.groups.getLsbD g.val = true ∧ groups.getLsbD g.val = true)) ∧
    (check.blanked = true ↔ ∃ z ∈ zones, z.applies groups = true ∧ z.contains check.point = true) ∧
    (check.clamped = false → check.point = addSticks sticks groups p) ∧
    ((∀ z ∈ zones, z.mode = .blank) → check.clamped = false)

/-! ### Colour and level -/

/-- Negative drives are cut to 0, and drive above full scale is clipped or scaled so that the largest becomes 65535; GAMUT says
whether a drive was changed. -/
def Obligations.GamutStageLimitsDrive : Prop :=
  ∀ (mode : GamutMode) (e : Rgb),
    let cut : Rgb := { r := max 0 e.r, g := max 0 e.g, b := max 0 e.b }
    let maxE := max cut.r (max cut.g cut.b)
    let out := gamutStage mode e
    (maxE ≤ 65535 → out.1 = cut) ∧
    (65535 < maxE → mode = .clip → out.1 = { r := min 65535 cut.r, g := min 65535 cut.g, b := min 65535 cut.b }) ∧
    (65535 < maxE → mode = .scale →
      out.1 = { r := cut.r * 65535 / maxE, g := cut.g * 65535 / maxE, b := cut.b * 65535 / maxE } ∧
      max out.1.r (max out.1.g out.1.b) = 65535) ∧
    (∀ v ∈ [out.1.r, out.1.g, out.1.b], 0 ≤ v ∧ v ≤ 65535) ∧ (out.2 = true ↔ out.1 ≠ e)

/-- The colour pipeline over the colours and levels of a fixture. Stage 1: the white drive is floor(m · wmix / 256) of the white
capacity m, and each residual channel is the channel less the half-up rounding of its share, not negative; without a white
emitter there is no white drive and the residual is the colour. Stage 2: each primary drive is the half-away rounding of its
matrix row times the residual, over 16384. Stage 3 limits the three. Each emitter then takes level, dark and curve on its own
drive: every final drive lies in 0..65535, a dark fixture has every drive 0, and at full level with a LINEAR curve the drives
are those of stages 3 and 1. -/
def Obligations.ColourPipelineStaysInRange : Prop :=
  ∀ (p : Profile) (c : Colour) (level : Nat),
    (∀ w, p.whiteVector = some w → ∀ v ∈ [w.r, w.g, w.b], 1 ≤ v ∧ v ≤ 65535) →
    c.r ≤ 65535 → c.g ≤ 65535 → c.b ≤ 65535 → c.wmix ≤ 256 → level ≤ 65535 →
    let res := residual p c
    let drive := matrixDrive p res
    let out := gamutStage p.gamut drive
    (p.whiteVector = none → whiteDrive p c = none ∧ res = { r := c.r, g := c.g, b := c.b }) ∧
    (∀ w, p.whiteVector = some w →
      let m := min 65535 (min (c.r * 65535 / w.r.toNat) (min (c.g * 65535 / w.g.toNat) (c.b * 65535 / w.b.toNat)))
      let white := m * c.wmix / 256
      whiteDrive p c = some white ∧ isHalfUp (c.r - res.r) (white * w.r) 65535 ∧ isHalfUp (c.g - res.g) (white * w.g) 65535 ∧
        isHalfUp (c.b - res.b) (white * w.b) 65535) ∧
    (0 ≤ res.r ∧ 0 ≤ res.g ∧ 0 ≤ res.b) ∧ (c.wmix = 0 → res = { r := c.r, g := c.g, b := c.b }) ∧
    (isHalfAway drive.r (p.matrixRed.r * res.r + p.matrixRed.g * res.g + p.matrixRed.b * res.b) 16384 ∧
      isHalfAway drive.g (p.matrixGreen.r * res.r + p.matrixGreen.g * res.g + p.matrixGreen.b * res.b) 16384 ∧
      isHalfAway drive.b (p.matrixBlue.r * res.r + p.matrixBlue.g * res.g + p.matrixBlue.b * res.b) 16384) ∧
    (∀ dark,
      let e := colourPipeline p c level dark
      let final := finalDrive p.curve level dark
      (e.red = final out.1.r.toNat ∧ e.green = final out.1.g.toNat ∧ e.blue = final out.1.b.toNat ∧
        e.white = (whiteDrive p c).map final ∧ e.gamut = out.2) ∧
      e.red ≤ 65535 ∧ e.green ≤ 65535 ∧ e.blue ≤ 65535 ∧ ∀ w, e.white = some w → w ≤ 65535) ∧
    (let e := colourPipeline p c level true
     e.red = 0 ∧ e.green = 0 ∧ e.blue = 0 ∧ ∀ w, e.white = some w → w = 0) ∧
    (p.curve = .linear →
      let e := colourPipeline p c 65535 false
      (e.red : Int) = out.1.r ∧ (e.green : Int) = out.1.g ∧ (e.blue : Int) = out.1.b ∧ e.white = whiteDrive p c)

/-- The emitter curve: LINEAR leaves a drive, SQUARE gives floor(E² / 65535); 0 stays 0, full stays full, the curve is
monotonic, 32768 becomes 16384, and 255 or less becomes 0. It acts on the drive after level and blanking, and its result lies
in 0..65535. -/
def Obligations.EmitterCurve : Prop :=
  (∀ e, finalDrive .linear 65535 false e = e) ∧ (∀ e, finalDrive .square 65535 false e = e ^ 2 / 65535) ∧
  (∀ c, finalDrive c 65535 false 0 = 0 ∧ finalDrive c 65535 false 65535 = 65535) ∧
  (∀ c e f, e ≤ f → finalDrive c 65535 false e ≤ finalDrive c 65535 false f) ∧
  finalDrive .square 65535 false 32768 = 16384 ∧ (∀ e ≤ 255, finalDrive .square 65535 false e = 0) ∧
  ∀ c level dark e,
    finalDrive c level dark e = finalDrive c 65535 false (if dark then 0 else e * level / 65535) ∧
    (level ≤ 65535 → e ≤ 65535 → finalDrive c level dark e ≤ 65535)

/-! ### The evaluation pass -/

/-- The running pass evaluates its next fixture. Step 1: on each attribute a due pending transition becomes the active one, from
the values shown before, and the present value is that of the active transition at the progress of the pass; a track aim has
its track updated when the pass first asks for it, and takes the point the track serves. Then: overrides are kept, the desired
angles come from PARK, STOP, an angle aim or the solution of the zone-checked point, the limiter moves both axes, the colour
pipeline makes the drives, and the footprint in the next image holds the slot values. BLANKED and REACH raise their notices
where they rise, in this order (log entry 24). Every other fixture, the other images and the other units are kept. -/
def Obligations.EvaluationUpdatesOneFixture : Prop :=
  ∀ (s : State) (p : Pass) (i : Fin 128) (f : Fixture), s.fxe.pass = some p →
    (∀ x, p.sampling = some x → i.val < x.before) → p.nextFixture ≤ i.val → s.fixture? i = some f →
    (∀ j : Fin 128, p.nextFixture ≤ j.val → j < i → s.fixture? j = none) →
    ∃ (t u : State) (g : Fixture), exec .fixtureEvaluation s = .next t ∧
      t.fxe = { s.fxe with fixtures := s.fxe.fixtures.set i (some g), pass := some { p with nextFixture := i.val + 1 } } ∧
      g = { f with run := g.run } ∧ g.run.parked = f.run.parked ∧ g.run.stopped = f.run.stopped ∧ g.run.doused = f.run.doused ∧
      (let prof := s.profileOf f.config
       let aim := match p.promotes f.run.aimPending with
         | some x => aimStart f x.source x.due x.toValue x.duration x.shape
         | none => f.run.aim
       let colour := match p.promotes f.run.colourPending with
         | some x => newTransition x.source x.due f.run.colourPresent (colourOf prof x.toValue) x.duration x.shape
         | none => f.run.colour
       let level := match p.promotes f.run.levelPending with
         | some x => newTransition x.source x.due f.run.levelPresent x.toValue x.duration x.shape
         | none => f.run.level
       let k := p.progress aim.core
       let c := fun a b => interpolate colour.shape colour.duration (p.progress colour) a b
       u = (match aim.core.toValue with
         | .track n => if (s.tku[n]).updated = some p.localTime then s else s.updateTrack n p.localTime
         | _ => s) ∧
       (g.run.aim = { aim with core := p.seen aim.core } ∧ g.run.colour = p.seen colour ∧ g.run.level = p.seen level ∧
        g.run.aimPending = (if (p.promotes f.run.aimPending).isSome then none else f.run.aimPending) ∧
        g.run.colourPending = (if (p.promotes f.run.colourPending).isSome then none else f.run.colourPending) ∧
        g.run.levelPending = (if (p.promotes f.run.levelPending).isSome then none else f.run.levelPending)) ∧
       ((∀ n, aim.core.toValue = .track n →
          ∃ a, g.run.aimPresent = .point a ∧ (u.tku[n]).serves i f.config.mount p.localTime a) ∧
        (∀ a b, aim.core.fromValue = .point a → aim.core.toValue = .point b →
          let v := fun x y => interpolate aim.core.shape aim.core.duration k x y
          g.run.aimPresent = .point ⟨v a.x b.x, v a.y b.y, v a.z b.z⟩) ∧
        (∀ a b, aim.core.fromValue = .angles a → aim.core.toValue = .angles b →
          let v := fun x y => interpolate aim.core.shape aim.core.duration k x y
          g.run.aimPresent = match aim.target with
            | some q => if k = aim.core.duration then .point q else .angles ⟨v a.pan b.pan, v a.tilt b.tilt⟩
            | none => .angles ⟨v a.pan b.pan, v a.tilt b.tilt⟩) ∧
        g.run.colourPresent =
          { r := (c colour.fromValue.r colour.toValue.r).toNat, g := (c colour.fromValue.g colour.toValue.g).toNat
            b := (c colour.fromValue.b colour.toValue.b).toNat, wmix := (c colour.fromValue.wmix colour.toValue.wmix).toNat } ∧
        g.run.levelPresent =
          (interpolate level.shape level.duration (p.progress level) level.fromValue level.toValue).toNat) ∧
       (f.run.parked = true → g.run.desired = clampAngles f.config f.config.park ∧ g.run.reach = false ∧
         g.run.clamped = false ∧ g.run.blanked = false) ∧
       (∀ a, f.run.parked = false → f.run.stopped = some a →
         g.run.desired = clampAngles f.config a ∧ g.run.reach = false) ∧
       (∀ a, f.run.parked = false → g.run.aimPresent = .angles a →
         g.run.clamped = false ∧ g.run.blanked = false ∧
         (f.run.stopped = none → g.run.desired = clampAngles f.config a ∧ g.run.reach = g.run.aim.reachMark)) ∧
       (∀ a, f.run.parked = false → g.run.aimPresent = .point a →
         let z := zoneCheck s.fxe.zones.toList s.sku.sticks.toList f.groups a
         g.run.clamped = z.clamped ∧ g.run.blanked = z.blanked ∧
         (∀ sol, f.run.stopped = none → solve f.config z.point f.run.desired.pan = some sol →
           g.run.desired = clampAngles f.config sol.angles ∧ g.run.reach = sol.fallback) ∧
         (f.run.stopped = none → solve f.config z.point f.run.desired.pan = none →
           g.run.desired = clampAngles f.config f.run.desired ∧ g.run.reach = f.run.reach)) ∧
       (g.run.commanded.pan, g.run.velocity.pan) = slew (vstep prof.panVmax p.period) (astep prof.panAmax p.period)
         f.config.panWindow f.run.commanded.pan f.run.velocity.pan g.run.desired.pan ∧
       (g.run.commanded.tilt, g.run.velocity.tilt) = slew (vstep prof.tiltVmax p.period) (astep prof.tiltAmax p.period)
         f.config.tiltWindow f.run.commanded.tilt f.run.velocity.tilt g.run.desired.tilt ∧
       (g.run.lag = true ↔ g.run.commanded ≠ g.run.desired) ∧
       (let e := colourPipeline prof g.run.colourPresent (if f.run.parked then f.config.parkLevel else g.run.levelPresent)
          (f.run.doused || g.run.blanked)
        g.run.gamut = e.gamut ∧
        s.nextImages t fun l k =>
          if l = f.config.line ∧ covers f.config.start prof.footprint k
          then (footprintValues prof f.statics g.run.commanded e).getD (k - (f.config.start - 1)) 0
          else (s.lnu[l]).next.getD k 0) ∧
       (let dark := if g.run.blanked = true ∧ f.run.blanked = false then u.raise (.fixtureFlag i .blanked) else u
        let told := if g.run.reach = true ∧ f.run.reach = false then dark.raise (.fixtureFlag i .reach) else dark
        t = { s with fxe := t.fxe, lnu := t.lnu, tku := u.tku, rqd := told.rqd }))

/-- A pass with no fixture left completes: every line's latest image becomes its next image, each track not yet updated for the
pass is updated to its time, also one bound anew during it (log entry 31), in ascending order (log entry 24), and the pass is
over. The update of a bound track takes the entries due from the head of its queue, and the last of them becomes the from-point;
where they were the last in the queue, the track is ENDED with its end flag and else STARVED, with the underrun counted, and
its TRACK notice is raised. A completion evaluates the fixtures that are left first (the model's choice, log entry 11), and the
stick sampling of the expiry comes before the evaluation or the completion it stands before (log entry 9), on the sticks as they
stand then (log entry 34); a completion or an evaluation without a running pass changes nothing (log entry 3). -/
def Obligations.PassCompletionSwapsImages : Prop :=
  ∀ s : State,
    (s.fxe.pass = none → exec .passCompletion s = .next s ∧ exec .fixtureEvaluation s = .next s) ∧
    (∀ (k : Fin 4) (time : LocalTime),
      let old := s.tku[k]
      let due := old.queue.takeWhile fun e => decide (0 ≤ (time - e.due).toInt)
      let left := old.queue.dropWhile fun e => decide (0 ≤ (time - e.due).toInt)
      let next : Track := { old with queue := left, updated := some time }
      (old.state = .unbound → s.updateTrack k time = s) ∧
      (old.state ≠ .unbound → due = [] → s.updateTrack k time = { s with tku := s.tku.set k next }) ∧
      ∀ e, old.state ≠ .unbound → due.getLast? = some e →
        let passed : Track := { next with fromPoint := some e.point, fromTime := some e.due, joins := [] }
        (left ≠ [] → s.updateTrack k time = { s with tku := s.tku.set k passed }) ∧
        (left = [] → e.last = true → s.updateTrack k time =
          ({ s with tku := s.tku.set k { passed with state := .ended } } : State).raise (.track k .ended)) ∧
        (left = [] → e.last = false → s.updateTrack k time =
          (({ s with tku := s.tku.set k { passed with state := .starved } } : State).count Stats.addUnderrun).raise
            (.track k .starved))) ∧
    ∀ p : Pass, s.fxe.pass = some p →
      (p.sampling = none → (∀ j : Fin 128, p.nextFixture ≤ j.val → s.fixture? j = none) →
        let tracked := (List.finRange 4).foldl
          (fun (u : State) k => if (u.tku[k]).updated = some p.localTime then u else u.updateTrack k p.localTime) s
        ∃ t : State, exec .passCompletion s = .next t ∧ t.fxe = { s.fxe with pass := none } ∧
          (∀ l : Fin 8, t.lnu[l] = { s.lnu[l] with latest := (s.lnu[l]).next }) ∧
          (∀ k : Fin 4, (s.tku[k]).state ≠ .unbound → (t.tku[k]).updated = some p.localTime) ∧
          t = { s with fxe := t.fxe, lnu := t.lnu, tku := tracked.tku, rqd := tracked.rqd }) ∧
      (∀ (i : Fin 128) (u : State), p.nextFixture ≤ i.val → (s.fixture? i).isSome = true →
        exec .fixtureEvaluation s = .next u → exec .passCompletion s = exec .passCompletion u) ∧
      ∀ x, p.sampling = some x →
        let sampled := (s.sampleSticks x.adc x.stepLength).setPass (some { p with sampling := none })
        ((∀ j : Fin 128, p.nextFixture ≤ j.val → s.fixture? j = none) →
          exec .passCompletion s = exec .passCompletion sampled) ∧
        ∀ i : Fin 128, x.before ≤ i.val → p.nextFixture ≤ i.val → (s.fixture? i).isSome = true →
          (∀ j : Fin 128, p.nextFixture ≤ j.val → j < i → s.fixture? j = none) →
          exec .fixtureEvaluation s = exec .fixtureEvaluation sampled

/-- A step expiry (a pass that still runs is completed first: the model's choice, log entry 11): the waiting period comes in
force, show time advances by the step length, twice it under a SKIP, or not at all under a REPEAT or PAUSED, up to the end of
the day; the slip is used up with its SLIP notice, or discarded. The timeline entries reached are handed to the PBU, each READY
cue among them fires on the SHOW base and each other one raises MISSING-CUE, and the cursor stands behind them; then the bound
tracks without a member are updated (log entries 10 and 24). The pass begins with the new times; with no fixture defined it
completes at once, in this step (log entry 30), with its sampling and its image swap. The expiry is one of its scheduled time
(log entries 2 and 12), and the operand says where in the pass the sticks are sampled (log entry 9). -/
def Obligations.StepExpiryAdvancesShow : Prop :=
  (∀ (s t : State) (adc : Readings) (sampling : Nat), exec .passCompletion s = .next t →
    exec (.stepExpiry adc sampling) s = exec (.stepExpiry adc sampling) t) ∧
  ∀ (s : State) (adc : Readings) (sampling : Nat), s.fxe.pass = none →
    ∃ t : State, exec (.stepExpiry adc sampling) s = .next t ∧
      t.scu = { s.scu with
        timeUs := s.usOf s.scu.nextExpiry, period := s.scu.waiting.getD s.scu.period, waiting := none
        nextExpiry := s.scu.nextExpiry + BitVec.ofNat 32 (s.scu.waiting.getD s.scu.period)
        showTime := (if s.scu.running then
          min (s.scu.showTime + match s.scu.lock.slip with
            | none => s.scu.period
            | some x => if x.skip then 2 * s.scu.period else 0) 86399999 else s.scu.showTime)
        lock := s.scu.lock.withSlip none } ∧
      (if ∀ i : Fin 128, s.fixture? i = none then
        t.fxe.pass = none ∧ t.lnu = s.lnu.map (fun l => { l with latest := l.next }) ∧
          t.sku.sticks = (s.sampleSticks adc s.scu.period).sku.sticks
      else
        t.fxe.pass = some
          { localTime := s.scu.nextExpiry, showTime := t.scu.showTime, period := t.scu.period, nextFixture := 0
            sampling := if sampling = 0 then none
              else some { adc := adc, stepLength := s.scu.period, before := sampling - 1 } } ∧
        t.lnu = s.lnu ∧
        t.sku.sticks = if sampling = 0 then (s.sampleSticks adc s.scu.period).sku.sticks else s.sku.sticks) ∧
      t.pbu = { s.pbu with cursor := t.pbu.cursor } ∧ (s.timelineOk → t.timelineOk) ∧
      t.fxe = { s.fxe with fixtures := t.fxe.fixtures, pass := t.fxe.pass } ∧
      (s.timelineOk →
        let passed := s.entriesPassed t.scu.showTime
        let now : State := { s with scu := { s.scu with timeUs := s.usOf s.scu.nextExpiry } }
        let sampled := if sampling = 0 then now.sampleSticks adc s.scu.period else now
        let slipped := if s.scu.running then
            (match s.scu.lock.slip with
              | none => sampled
              | some x => (sampled.count (if x.skip then Stats.addSkip else Stats.addRepeat)).raise (.slip x.skip x.error))
          else sampled
        let fired : State := { slipped.missed passed with fxe := { s.fxe with fixtures := t.fxe.fixtures } }
        let tracked := (List.finRange 4).foldl
          (fun (u : State) k => if u.members k = [] then u.updateTrack k s.scu.nextExpiry else u) fired
        (∀ i, t.fixture? i = (s.fixture? i).map (s.timelineGives passed t.scu.showTime false i)) ∧ t.tku = tracked.tku ∧
        t.rqd = if (∀ i : Fin 128, s.fixture? i = none) ∧ sampling ≠ 0 then (tracked.sampleSticks adc s.scu.period).rqd
          else tracked.rqd) ∧
      t.sku.inputs = adc ∧ t.ims = s.ims ∧ t.sli = s.sli ∧
      t.rqd.stats.skips = s.rqd.stats.skips + (if s.scu.running ∧ s.scu.lock.slip.any Slip.skip then 1 else 0) ∧
      t.rqd.stats.repeats =
        s.rqd.stats.repeats + (if s.scu.running ∧ s.scu.lock.slip.any (fun x => !x.skip) then 1 else 0)

/-! ### Playback -/

/-- GO fires a READY cue on the local clock: it counts the starts and the pending transitions over all parts, and gives each
fixture, part by part in stored order, a start, or a pending transition where the part has a delay, on each attribute that a
part naming the fixture sets; it leaves the other attributes and fixtures alone. -/
def Obligations.GoFiresCue : Prop :=
  ∀ (s : State) (q : Request) (c : Fin 96), s.serving 0x2C q → q.payload = [byteOf c.val] → (s.cueOf c).state = .ready →
    let total := fun l : List PartRecord => (l.map fun p => (s.partFixtures p).length * p.attributeCount).sum
    ∃ t : State, exec (.go q) s = .next (t.answered 0x2C q (.ok
        (be16 (total ((s.cueOf c).parts.filter fun p => p.delay == 0)) ++
          be16 (total ((s.cueOf c).parts.filter fun p => p.delay != 0))))) ∧
      s.fixturesChanged t (s.cueGives c (.onLocal s.localClock) false)

/-- The build of a cue: CUE-OPEN aborts the build of another cue, empties the cue and opens it; CUE-PART appends its parts, makes
the cue READY with the last of them, and aborts the build when the pool runs short; CUE-DELETE empties the cue. The pool gets
back the parts of an emptied cue. Nothing else changes. -/
def Obligations.CueBuildFollowsRequests : Prop :=
  ∀ (s : State) (q : Request) (c : Fin 96), s.ims.saving = none → s.poolOk →
    (∀ n, s.serving 0x30 q → q.payload = [byteOf c.val, byteOf n] → 1 ≤ n → n ≤ 64 →
      ∃ t : State, exec (.cueOpen q) s = .next (t.answered 0x30 q (.ok
          ((match s.pbu.openBuild with
            | some b => if b.cue = c then 0xFF else byteOf b.cue.val
            | none => 0xFF) :: be16 t.pbu.poolFree))) ∧
        t = { s with pbu := { s.pbu with
          cues := t.pbu.cues, poolFree := t.pbu.poolFree, openBuild := some { cue := c, declared := n, received := 0 } } } ∧
        t.poolOk ∧ t.cueOf c = { state := .opened, declared := n, parts := [] } ∧
        ∀ d, d ≠ c → t.cueOf d = if s.pbu.openBuild.any (fun b => b.cue == d) then Cue.blank else s.cueOf d) ∧
    (∀ parts : List PartRecord, s.serving 0x31 q →
      q.payload = [byteOf c.val, byteOf parts.length] ++ parts.flatMap PartRecord.bytes → 1 ≤ parts.length →
      parts.length ≤ 7 → (s.cueOf c).state = .opened →
      (∀ p ∈ parts, p.selector.isSome ∧ p.aimOk ∧ p.colourOk ∧ p.someAttribute ∧ p.shape.toNat < 2) →
      (s.cueOf c).parts.length + parts.length ≤ (s.cueOf c).declared →
      let held := (s.cueOf c).parts ++ parts
      let state : CueState := if held.length = (s.cueOf c).declared then .ready else .opened
      (parts.length ≤ s.pbu.poolFree →
        exec (.cuePart q) s = .next (({ s with pbu := { s.pbu with
            cues := s.pbu.cues.set c { state := state, declared := (s.cueOf c).declared, parts := held }
            poolFree := s.pbu.poolFree - parts.length
            openBuild := if state = .ready then none
              else some { cue := c, declared := (s.cueOf c).declared, received := held.length } } } : State).answered 0x31 q
          (.ok ([byteOf held.length, cueStateCode state] ++ be16 (s.pbu.poolFree - parts.length))))) ∧
      (s.pbu.poolFree < parts.length →
        exec (.cuePart q) s = .next (({ s with pbu := { s.pbu with
            cues := s.pbu.cues.set c Cue.blank, poolFree := s.pbu.poolFree + (s.cueOf c).parts.length
            openBuild := none } } : State).answered 0x31 q
          { status := .full, data := be16 (s.pbu.poolFree + (s.cueOf c).parts.length) }))) ∧
    (s.serving 0x32 q → q.payload = [byteOf c.val] → (s.cueOf c).state ≠ .empty →
      exec (.cueDelete q) s = .next (({ s with pbu := { s.pbu with
          cues := s.pbu.cues.set c Cue.blank, poolFree := s.pbu.poolFree + (s.cueOf c).parts.length
          openBuild := if (s.cueOf c).state = .opened then none else s.pbu.openBuild } } : State).answered 0x32 q
        (.ok (be16 (s.pbu.poolFree + (s.cueOf c).parts.length)))))

/-- With no image load, the free pool slots and the stored parts make 1024, an EMPTY cue holds no part, a READY cue holds its
declared parts, and the open-build record names the one OPEN cue. -/
def Obligations.PartPoolBalances : Prop :=
  ∀ s t : State, (∀ c ∈ s.pending, c.loadsImage = false) → s.poolOk → step s = .next t →
    t.poolOk ∧ ∀ c ∈ t.pending, c.loadsImage = false

/-- With no image load, show time stays within the day, the timeline stays in order of time and the cursor stands behind
exactly the entries whose time show time has reached. -/
def Obligations.CursorFollowsShowTime : Prop :=
  ∀ s t : State, (∀ c ∈ s.pending, c.loadsImage = false) → s.timelineOk → step s = .next t →
    t.timelineOk ∧ ∀ c ∈ t.pending, c.loadsImage = false

/-- TIMELINE-ADD puts its entry behind the entries of its time and earlier, TIMELINE-REMOVE takes out the first entry equal to
its own; each answers the position and the new length, and the cursor counts the entries reached. -/
def Obligations.TimelineRequests : Prop :=
  ∀ (s : State) (q : Request) (e : TimelineEntry), s.timelineOk → s.ims.saving = none → e.time ≤ 86399999 →
    q.payload = be32 e.time ++ [byteOf e.cue.val] →
    (s.serving 0x3B q → s.pbu.timeline.length < 256 →
      let pos := (s.pbu.timeline.filter fun x => decide (x.time ≤ e.time)).length
      ∃ t : State, exec (.timelineAdd q) s =
          .next (t.answered 0x3B q (.ok (be16 pos ++ be16 (s.pbu.timeline.length + 1)))) ∧
        t = { s with pbu := { s.pbu with
          timeline := s.pbu.timeline.take pos ++ e :: s.pbu.timeline.drop pos, cursor := t.pbu.cursor } } ∧ t.timelineOk) ∧
    (s.serving 0x3B q → 256 ≤ s.pbu.timeline.length →
      exec (.timelineAdd q) s = .next (s.answered 0x3B q (.refuse .full))) ∧
    (s.serving 0x3C q → e ∈ s.pbu.timeline →
      ∃ t : State, exec (.timelineRemove q) s =
          .next (t.answered 0x3C q (.ok (be16 (s.pbu.timeline.idxOf e) ++ be16 (s.pbu.timeline.length - 1)))) ∧
        t = { s with pbu := { s.pbu with timeline := s.pbu.timeline.erase e, cursor := t.pbu.cursor } } ∧ t.timelineOk) ∧
    (s.serving 0x3C q → e ∉ s.pbu.timeline →
      exec (.timelineRemove q) s = .next (s.answered 0x3C q (.refuse .noSuch)))

/-! ### Show time and the lock -/

/-- SHOW-TIME outside LOCKED moves show time by jump processing, with the entries passed fired snapped and the JUMP notice, and
sets the run state with the RUN notice of a change; it is refused IN-USE in LOCKED. CLOCK-SET puts its settings in force, the
step period as the waiting one. The MISSING-CUE notices of a jump come before its JUMP notice, and the RUN notice after it (log
entry 24). -/
def Obligations.ClockRequests : Prop :=
  ∀ (s : State) (q : Request),
    (∀ (time : Nat) (run : Bool), s.serving 0x38 q → q.payload = be32 time ++ [boolByte run] → time ≤ 86399999 →
      (s.scu.lock.name = .locked → exec (.showTime q) s = .next (s.answered 0x38 q (.refuse .inUse))) ∧
      (s.scu.lock.name ≠ .locked →
        ∃ t : State, exec (.showTime q) s = .next (t.answered 0x38 q (.ok (be32 time ++ [boolByte run]))) ∧
          t.scu = { s.scu with showTime := time, running := run } ∧ t.rqd.stats.jumps = s.rqd.stats.jumps + 1 ∧
          t.pbu = { s.pbu with cursor := t.pbu.cursor } ∧ (s.timelineOk → t.timelineOk) ∧
          (time ≤ s.scu.showTime → t.fxe = s.fxe) ∧
          (s.timelineOk → ∃ jumped, s.movesTo jumped time true ∧ t = jumped.ran run) ∧
          t = { s with scu := t.scu, rqd := t.rqd, pbu := t.pbu, fxe := t.fxe })) ∧
    ∀ (p i j : Nat), s.serving 0x39 q → s.ims.saving = none → q.payload = [byteOf p, byteOf i] ++ be16 j →
      p ∈ [2, 4, 5, 8, 10] → 10 ≤ i → i ≤ 100 → 20 ≤ j → j ≤ 10000 →
      exec (.clockSet q) s = .next (({ s with scu := { s.scu with
        waiting := if p = s.scu.period then none else some p, markInterval := i, jumpThreshold := j } } : State).answered 0x39 q
          (.ok []))

/-- What a complete mark does in CONFIRM and in LOCKED, in a state whose timeline is in order. In CONFIRM a mark consistent with
the remembered one enters LOCKED, jumps where its error reaches J, and is heeded; another replaces the remembered mark. In
LOCKED a mark consistent with the jump candidate jumps and is heeded, one consistent with the reference mark is heeded, and any
other becomes the candidate and counts bad; the third bad one enters HOLDOVER. A failed mark is counted, and in LOCKED counts
bad and moves the watch deadline. Heeding a mark sets the run state and relocates show time, or, RUNNING with RUN set, decides
the slip. The elapsed time between two marks is a signed difference (log entry 15), the order of the notices of one mark is
the model's (log entry 24), and a relocation to the present show time discards a slip (log entry 13). -/
def Obligations.MarksMoveTheLock : Prop :=
  (∀ base m : Mark,
    let elapsed := (m.arrival - base.arrival).toInt
    consistent base m = true ↔
      (base.time : Int) + (if base.run = true ∧ m.run = true then elapsed else 0) - 3 ≤ m.time ∧
        (m.time : Int) ≤ base.time + (if base.run = false ∧ m.run = false then 0 else elapsed) + 3) ∧
  ∀ (s : State) (body : List Byte), s.timelineOk → s.scu.receiver = .hunting → body.length = 6 →
    let m : Mark := { time := u32 body 1, run := u8 body 0 % 2 == 1, arrival := s.localClock }
    let next := s.localClock + BitVec.ofNat 32 (3 * s.scu.markInterval)
    let valid := body.foldl (· + ·) (0 : Byte) = 0 ∧ m.time ≤ 86399999
    let heard := fun l : Lock => ({ s with scu := { s.scu with lock := l } } : State).count Stats.addValidMark
    let failed := fun l : Lock => ({ s with scu := { s.scu with lock := l } } : State).count Stats.addBadMark
    (∀ r d, s.scu.lock = .confirm r d →
      (¬valid → exec (.markReceived (0xA7 :: body)) s = .next (s.count Stats.addBadMark)) ∧
      (valid → consistent r m = false → exec (.markReceived (0xA7 :: body)) s = .next (heard (.confirm m next))) ∧
      (valid → consistent r m = true →
        let entered := (heard (.locked m 0 next none none)).raise (.lock .locked)
        ∃ v t, exec (.markReceived (0xA7 :: body)) s = .next t ∧ v.heeds t m ∧
          if s.scu.jumpThreshold ≤ ((m.time : Int) - s.scu.showTime).natAbs then entered.movesTo v m.time true
          else v = entered)) ∧
    ∀ r bad w candidate slip, s.scu.lock = .locked r bad w candidate slip →
      (valid → candidate.any (fun c => consistent c m) = true →
        ∃ v t, exec (.markReceived (0xA7 :: body)) s = .next t ∧ (heard (.locked m 0 next none slip)).movesTo v m.time true ∧
          v.heeds t m) ∧
      (valid → candidate.any (fun c => consistent c m) = false → consistent r m = true →
        ∃ t, exec (.markReceived (0xA7 :: body)) s = .next t ∧ (heard (.locked m 0 next none slip)).heeds t m) ∧
      (valid → candidate.any (fun c => consistent c m) = false → consistent r m = false →
        exec (.markReceived (0xA7 :: body)) s = .next (if bad + 1 < 3 then heard (.locked r (bad + 1) next (some m) slip)
          else (heard .holdover).raise (.lock .holdover))) ∧
      (¬valid → exec (.markReceived (0xA7 :: body)) s = .next (if bad + 1 < 3 then failed (.locked r (bad + 1) next candidate slip)
          else (failed .holdover).raise (.lock .holdover)))

/-- A valid mark in SEARCH or HOLDOVER is remembered: the state becomes CONFIRM with its deadline three intervals after the
mark; show time and the run state are not changed. A failed mark there is only counted, and every complete mark is counted. -/
def Obligations.MarkInSearchIsRemembered : Prop :=
  ∀ (s : State) (body : List Byte), s.scu.receiver = .hunting → s.scu.lock = .search ∨ s.scu.lock = .holdover →
    body.length = 6 →
    (body.foldl (· + ·) (0 : Byte) = 0 → u32 body 1 ≤ 86399999 →
      exec (.markReceived (0xA7 :: body)) s =
        .next ((({ s with scu := { s.scu with
          lock := .confirm { time := u32 body 1, run := u8 body 0 % 2 == 1, arrival := s.localClock }
            (s.localClock + BitVec.ofNat 32 (3 * s.scu.markInterval)) } } : State).count Stats.addValidMark).raise
              (.lock .confirm))) ∧
    (body.foldl (· + ·) (0 : Byte) ≠ 0 ∨ 86399999 < u32 body 1 →
      exec (.markReceived (0xA7 :: body)) s = .next (s.count Stats.addBadMark))

/-- A mark consistent with the reference, with RUN set, in LOCKED while RUNNING and with no candidate it agrees with: it becomes
the reference mark, the bad count is 0, the watch deadline moves on, and its error decides the slip. -/
def Obligations.LockedMarkDecidesSlip : Prop :=
  ∀ (s : State) (body : List Byte) (reference : Mark) (bad : Nat) (watch : LocalTime) (candidate : Option Mark)
    (slip : Option Slip), s.scu.receiver = .hunting → s.scu.lock = .locked reference bad watch candidate slip →
    s.scu.running = true → body.length = 6 → body.foldl (· + ·) (0 : Byte) = 0 → u32 body 1 ≤ 86399999 →
    u8 body 0 % 2 = 1 → 0 < s.scu.period → s.scu.period < s.scu.jumpThreshold →
    let m : Mark := { time := u32 body 1, run := true, arrival := s.localClock }
    let e : Int := (m.time : Int) - s.scu.showTime
    consistent reference m = true → (∀ c, candidate = some c → consistent c m = false) →
    ∃ candidate' slip', exec (.markReceived (0xA7 :: body)) s =
        .next (({ s with scu := { s.scu with
          lock := .locked m 0 (s.localClock + BitVec.ofNat 32 (3 * s.scu.markInterval)) candidate' slip' } } : State).count
            Stats.addValidMark) ∧
      ((s.scu.jumpThreshold : Int) ≤ e.natAbs → candidate' = some m ∧ slip' = slip) ∧
      ((s.scu.period : Int) ≤ e → e < s.scu.jumpThreshold → candidate' = none ∧ slip' = some { skip := true, error := e }) ∧
      (-(s.scu.jumpThreshold : Int) < e → e ≤ -(s.scu.period : Int) →
        candidate' = none ∧ slip' = some { skip := false, error := e }) ∧
      ((e.natAbs : Int) < s.scu.period → candidate' = none ∧ slip' = none)

/-- The confirm deadline returns CONFIRM to SEARCH; the watch deadline of LOCKED counts one mark missing and moves on by one
interval, and the third bad mark enters HOLDOVER; a mark that is broken off is counted bad. Each leaves show time and the run
state as they are, and where there is nothing to pass or break off nothing changes (the model's choice, log entry 3). -/
def Obligations.DeadlinesMoveTheLock : Prop :=
  ∀ s : State,
    (∀ m d, s.scu.lock = .confirm m d → exec .confirmDeadline s =
      .next (({ s with scu := { s.scu with timeUs := s.usOf d, lock := .search } } : State).raise (.lock .search))) ∧
    (s.scu.lock.name ≠ .confirm → exec .confirmDeadline s = .next s) ∧
    (∀ r bad w c x, s.scu.lock = .locked r bad w c x →
      (bad + 1 < 3 → exec .watchDeadline s = .next { s with scu := { s.scu with
        timeUs := s.usOf w, lock := .locked r (bad + 1) (w + BitVec.ofNat 32 s.scu.markInterval) c x } }) ∧
      (3 ≤ bad + 1 → exec .watchDeadline s =
        .next (({ s with scu := { s.scu with timeUs := s.usOf w, lock := .holdover } } : State).raise (.lock .holdover)))) ∧
    (s.scu.lock.name ≠ .locked → exec .watchDeadline s = .next s) ∧
    (s.scu.receiver = .hunting → exec .markAbandoned s = .next s) ∧
    (∀ body last, s.scu.receiver = .collecting body last → exec .markAbandoned s =
      .next (({ s with scu := { s.scu with receiver := .hunting } } : State).count Stats.addBadMark))

/-- LOCKED lasts only while the bad count is below 3, and a mark being collected has fewer than six body bytes. -/
def Obligations.LockStaysInOrder : Prop :=
  ∀ s t : State, s.lockOk → step s = .next t → t.lockOk

/-! ### Tracks and sticks -/

/-- TRACK-BIND releases the members of a bound track, binds the fixtures of its group and leaves the track WAITING;
TRACK-POINTS queues its entries with their due times and makes the track RUNNING; TRACK-RELEASE holds each member where it is
and unbinds the track, which keeps no from-time (log entry 20) and no update time (the model's choice, log entry 33). Nothing else
changes. -/
def Obligations.TrackRequests : Prop :=
  ∀ (s : State) (q : Request) (k : Fin 4),
    (∀ g : Fin 32, s.serving 0x40 q → q.payload = [byteOf k.val, byteOf g.val] →
      ∃ t : State, exec (.trackBind q) s = .next (t.answered 0x40 q (.ok [byteOf (s.numberNamed (.group g.val))])) ∧
        t = { s with fxe := { s.fxe with fixtures := t.fxe.fixtures }, tku := s.tku.set k (t.tku[k]) } ∧
        t.tku[k] = { Track.unbound with state := .waiting, joins := (t.tku[k]).joins } ∧
        ∀ i, t.fixture? i = (s.fixture? i).map fun f =>
          if f.groups.getLsbD g.val then f.bindTo k s.localClock
          else if (s.tku[k]).state ≠ .unbound ∧ f.run.aim.core.source = .track k then f.holdAim s.localClock else f) ∧
    (s.serving 0x41 q → q.payload.length = 2 + 15 * u8 q.payload 1 → u8 q.payload 0 = k.val → 1 ≤ u8 q.payload 1 →
      u8 q.payload 1 ≤ 15 →
      let entries := sentEntries (u8 q.payload 1) (q.payload.drop 2)
      (∀ e ∈ entries, e.point.inStage ∧ 1 ≤ e.interval ∧ e.interval ≤ 10000 ∧ e.flag < 2) → (s.tku[k]).state ≠ .unbound →
      let old := s.tku[k]
      (old.queue.length + entries.length ≤ 32 →
        ((old.state = .running → exec (.trackPoints q) s =
            (let queue := old.queue ++ giveDueTimes ((old.queue.getLast?.map TrackEntry.due).getD s.localClock) entries
             .next (({ s with tku := s.tku.set k { old with queue := queue } } : State).answered 0x41 q
               (.ok [byteOf queue.length, 2])))) ∧
         (old.state ≠ .running → exec (.trackPoints q) s =
            (let queue := old.queue ++ giveDueTimes s.localClock entries
             let track : Track := { old with queue := queue, state := .running, fromTime := some s.localClock }
             .next ((({ s with tku := s.tku.set k track } : State).raise (.track k .running)).answered 0x41 q
               (.ok [byteOf queue.length, 2])))))) ∧
      (32 < old.queue.length + entries.length → exec (.trackPoints q) s = .next (s.answered 0x41 q (.refuse .full)))) ∧
    (s.serving 0x42 q → q.payload = [byteOf k.val] → (s.tku[k]).state ≠ .unbound →
      ∃ t : State, exec (.trackRelease q) s = .next (t.answered 0x42 q (.ok [byteOf (s.members k).length])) ∧
        t = { s with fxe := { s.fxe with fixtures := t.fxe.fixtures }, tku := s.tku.set k Track.unbound } ∧
        ∀ i, t.fixture? i = (s.fixture? i).map fun f =>
          if f.run.aim.core.source = .track k then f.holdAim s.localClock else f)

/-- A track holds at most 32 entries, holds one exactly while RUNNING, and its due times rise. -/
def Obligations.TracksStayInOrder : Prop :=
  ∀ s t : State, s.tracksOk → step s = .next t → t.tracksOk

/-- STICK-SET, STICK-ZERO, STICK-CENTRE and STICK-SAMPLE on their stick, and no other; a conversion stores the raw readings and
the rail faults, with a notice for each fault that changes, x before y (the model's choice, log entry 24). -/
def Obligations.StickRequests : Prop :=
  ∀ (s : State) (q : Request) (i : Fin 2) (adc : Readings),
    let k := s.sku.sticks[i]
    let x := if i = 0 then adc.x0.toNat else adc.x1.toNat
    let y := if i = 0 then adc.y0.toNat else adc.y1.toNat
    let rail := fun v : Nat => decide (v ≤ 16 ∨ 4079 ≤ v)
    let read : Stick := { k with rawX := x, rawY := y, faultX := rail x, faultY := rail y }
    let told : State := if k.faultX = rail x then s else s.raise (.stickFault i .x (rail x))
    let noted : State := if k.faultY = rail y then told else told.raise (.stickFault i .y (rail y))
    (s.serving 0x48 q → s.ims.saving = none → q.payload.length = 9 → u8 q.payload 0 = i.val →
      u8 q.payload 1 < 32 ∨ u8 q.payload 1 = 255 → u8 q.payload 2 < 2 → u16 q.payload 3 ≤ 400 → 1 ≤ u16 q.payload 5 →
      u16 q.payload 5 ≤ 20000 → u16 q.payload 7 ≤ 50000 →
      exec (.stickSet q) s = .next (({ s with sku := { s.sku with sticks := s.sku.sticks.set i { k with
        group := if u8 q.payload 1 = 255 then none else some (Fin.ofNat 32 (u8 q.payload 1))
        sampling := if u8 q.payload 2 = 1 then .single else .continuous
        deadBand := u16 q.payload 3, gain := u16 q.payload 5, range := u16 q.payload 7
        offsetX := max (-(u16 q.payload 7 : Int)) (min (u16 q.payload 7) k.offsetX)
        offsetY := max (-(u16 q.payload 7 : Int)) (min (u16 q.payload 7) k.offsetY) } } } : State).answered 0x48 q (.ok []))) ∧
    (s.serving 0x4A q → q.payload = [byteOf i.val] → exec (.stickZero q) s =
      .next (({ s with sku := { s.sku with sticks := s.sku.sticks.set i { k with offsetX := 0, offsetY := 0 } } } : State).answered
        0x4A q (.ok []))) ∧
    (s.serving 0x49 q → s.ims.saving = none → q.payload = [byteOf i.val] →
      (rail x = true ∨ rail y = true → exec (.stickCentre q adc) s =
        .next (({ noted with sku := { sticks := s.sku.sticks.set i read, inputs := adc } } : State).answered 0x49 q
          { status := .notReady, data := be16 x ++ be16 y })) ∧
      (rail x = false → rail y = false → exec (.stickCentre q adc) s =
        .next (({ noted with sku := { sticks := s.sku.sticks.set i { read with centreX := x, centreY := y }
                                      inputs := adc } } : State).answered 0x49 q (.ok (be16 x ++ be16 y))))) ∧
    (s.serving 0x4B q → q.payload = [byteOf i.val] → exec (.stickSample q adc) s =
      .next (({ noted with sku := { sticks := s.sku.sticks.set i read, inputs := adc } } : State).answered 0x4B q
        (.ok (be16 x ++ be16 y ++ [boolByte (rail x), boolByte (rail y)]))))

/-- The sampling of an expiry converts and integrates a stick in CONTINUOUS sampling and leaves one in SINGLE alone. The
integration of a step holds a faulted axis; on each other axis it adds to the offset the half-away rounding of effective
deflection times gain times step length over 2047000, and clamps into the range; the effective deflection is 0 in the dead band
and the deflection beyond it outside. So the offset stays in the range, and is held in the dead band. -/
def Obligations.StickOffsetsStayInRange : Prop :=
  (∀ (s : State) (r : Readings) (step : Nat) (i : Fin 2),
    let x := if i = 0 then r.x0.toNat else r.x1.toNat
    let y := if i = 0 then r.y0.toNat else r.y1.toNat
    let rail := fun v : Nat => decide (v ≤ 16 ∨ 4079 ≤ v)
    (s.sampleSticks r step).sku.sticks[i] = match (s.sku.sticks[i]).sampling with
      | .continuous =>
        ({ s.sku.sticks[i] with rawX := x, rawY := y, faultX := rail x, faultY := rail y } : Stick).integrate step
      | .single => s.sku.sticks[i]) ∧
  ∀ (k : Stick) (step : Nat),
    let after := k.integrate step
    let beyond := fun d : Int =>
      if d.natAbs ≤ k.deadBand then 0 else if 0 < d then d - k.deadBand else d + k.deadBand
    let moves := fun (raw centre : Nat) (before new : Int) =>
      ∃ add : Int, isHalfAway add (beyond ((raw : Int) - centre) * k.gain * step) 2047000 ∧
        new = max (-(k.range : Int)) (min k.range (before + add))
    let held := fun (raw centre : Nat) (before : Int) =>
      ((raw : Int) - centre).natAbs ≤ k.deadBand ∧ -(k.range : Int) ≤ before ∧ before ≤ k.range
    after = { k with offsetX := after.offsetX, offsetY := after.offsetY } ∧
    (k.faultX = true → after.offsetX = k.offsetX) ∧ (k.faultY = true → after.offsetY = k.offsetY) ∧
    (k.faultX = false → moves k.rawX k.centreX k.offsetX after.offsetX ∧ -(k.range : Int) ≤ after.offsetX ∧
      after.offsetX ≤ k.range) ∧
    (k.faultY = false → moves k.rawY k.centreY k.offsetY after.offsetY ∧ -(k.range : Int) ≤ after.offsetY ∧
      after.offsetY ≤ k.range) ∧
    (held k.rawX k.centreX k.offsetX → after.offsetX = k.offsetX) ∧
    (held k.rawY k.centreY k.offsetY → after.offsetY = k.offsetY)

/-! ### Lines -/

/-- LINE-SET, LINE-PIN and LINE-STATIC on their line, and no other. -/
def Obligations.LineRequests : Prop :=
  ∀ (s : State) (q : Request) (l : Fin 8), s.ims.saving = none →
    let old := s.lnu[l]
    (∀ (armed : ArmedMode) (n : Nat) (start : Byte) (check : CheckSlot) (inc : Bool) (interval : Nat), s.serving 0x50 q →
      q.payload = [byteOf l.val, armedCode armed] ++ be16 n ++ [start, checkCode check, boolByte inc] ++ be16 interval →
      24 ≤ n → n ≤ 512 → 1 ≤ interval → interval ≤ 1000 →
      (∀ i f, s.fixture? i = some f → f.config.line = l → armed = .frame ∧
        f.config.start + s.footprint f.config - 1 ≤ n - (if check = .none then 0 else 1)) →
      let set : Line :=
        { old with armed := armed, length := n, startCode := start, check := check, includeStart := inc, minInterval := interval }
      (old.frame.isSome = true → exec (.lineSet q) s =
        .next (({ s with lnu := s.lnu.set l set } : State).answered 0x50 q (.ok [lineModeCode old.mode]))) ∧
      (old.frame = none → old.faultInput = false ∨ armed = .off → exec (.lineSet q) s =
        .next (({ s with lnu := s.lnu.set l { set with mode := armed.mode } } : State).answered 0x50 q
          (.ok [lineModeCode armed.mode]))) ∧
      (old.frame = none → old.faultInput = true → armed ≠ .off → exec (.lineSet q) s =
        .next ((({ s with lnu := s.lnu.set l { set with mode := .fault, faults := old.faults + 1 } } : State).raise
          (.lineFault l)).answered 0x50 q (.ok [3])))) ∧
    (∀ high : Bool, s.serving 0x51 q → q.payload = [byteOf l.val, boolByte high] → exec (.linePin q) s =
      .next (({ s with lnu := s.lnu.set l { old with pinHigh := high } } : State).answered 0x51 q (.ok []))) ∧
    ∀ (slot : Nat) (values : List Byte), s.serving 0x52 q →
      q.payload = [byteOf l.val] ++ be16 slot ++ [byteOf values.length] ++ values → 1 ≤ slot → 1 ≤ values.length →
      values.length ≤ 200 → slot + values.length - 1 ≤ 512 →
      ∃ t : State, exec (.lineStatic q) s = .next (t.answered 0x52 q (.ok [])) ∧ t = { s with lnu := s.lnu.set l (t.lnu[l]) } ∧
        t.lnu[l] = { old with statics := (t.lnu[l]).statics, next := (t.lnu[l]).next } ∧
        ∀ (k : Nat) (h : k < 512),
          (t.lnu[l]).statics[k] = (if covers slot values.length k then values.getD (k - (slot - 1)) 0 else old.statics[k]) ∧
          (t.lnu[l]).next[k] = (if covers slot values.length k ∧ s.ownsSlot l (k + 1) = false
            then values.getD (k - (slot - 1)) 0 else old.next[k])

/-- A line in FRAME with no frame starts one when its interval lets it, with what it latches; a frame sent is counted and the
line takes its armed mode, or FAULT where its fault input is asserted; the fault input of a line in FRAME or PIN enters FAULT,
ending a frame unsent, also where a LINE-SET to another mode waits for that frame's end (log entry 28), and its release changes
no mode. Each changes its line alone; a line that may not start a frame, or has
none to end, is left as it is (the model's choice, log entry 3). -/
def Obligations.LineFramesAndFaults : Prop :=
  ∀ (s : State) (l : Fin 8),
    let old := s.lnu[l]
    (old.mode = .frame → old.frame = none →
      let start := max s.scu.timeUs ((old.lastStart.map fun u => u + old.minInterval * 1000).getD 0)
      exec (.frameStart l) s = .next { s with
        scu := { s.scu with timeUs := start }
        lnu := s.lnu.set l { old with
          lastStart := some start
          frame := some { length := old.length, startCode := old.startCode, check := old.check
                          includeStart := old.includeStart, values := readSlots old.latest 0 old.length, startUs := start } } }) ∧
    (old.mode ≠ .frame ∨ old.frame.isSome = true → exec (.frameStart l) s = .next s) ∧
    (∀ f, old.frame = some f →
      let done := max s.scu.timeUs (f.startUs + 112 + 44 * (f.length + 1))
      let sent : Line := { old with frame := none, framesSent := old.framesSent + 1 }
      (old.faultInput = false ∨ old.armed = .off → exec (.frameSent l) s = .next { s with
        scu := { s.scu with timeUs := done }, lnu := s.lnu.set l { sent with mode := old.armed.mode } }) ∧
      (old.faultInput = true → old.armed ≠ .off → exec (.frameSent l) s = .next (({ s with
        scu := { s.scu with timeUs := done }
        lnu := s.lnu.set l { sent with mode := .fault, faults := old.faults + 1 } } : State).raise (.lineFault l)))) ∧
    (old.frame = none → exec (.frameSent l) s = .next s) ∧
    (old.mode = .frame ∨ old.mode = .pin → exec (.faultInputAsserted l) s =
      (let down : Line := { old with faultInput := true, mode := .fault, frame := none, faults := old.faults + 1 }
       .next (({ s with lnu := s.lnu.set l down } : State).raise (.lineFault l)))) ∧
    (old.mode = .off ∨ old.mode = .fault → exec (.faultInputAsserted l) s =
      .next { s with lnu := s.lnu.set l { old with faultInput := true } }) ∧
    exec (.faultInputReleased l) s = .next { s with lnu := s.lnu.set l { old with faultInput := false } }

/-- A frame on the line as levels with their microseconds: LOW for 100, mark for 12, then the start code slot and N data slots
without gaps, each a LOW start bit, the eight data bits least significant first and two mark stop bits, at 4 µs a bit. The data
slots carry the values latched, with the check value over the slots before it in slot N. -/
def Obligations.FrameOnTheLine : Prop :=
  ∀ f : Frame, 1 ≤ f.length → f.values.length = f.length →
    f.levels.take 2 = [(false, 100), (true, 12)] ∧ f.levels.length = 2 + 11 * (f.length + 1) ∧
    (∀ n ≤ f.length, (f.levels.drop (2 + 11 * n)).take 11 =
      (false, 4) :: ((List.range 8).map fun i => (((f.startCode :: f.sent).getD n 0).getLsbD i, 4)) ++
        [(true, 4), (true, 4)]) ∧
    (f.levels.map Prod.snd).sum = 100 + 12 + (f.length + 1) * 44 ∧ f.sent.length = f.length ∧
    (f.sent.take (f.length - 1) = f.values.take (f.length - 1)) ∧
    (f.check = .none → f.sent = f.values) ∧
    (f.check = .xor → f.sent.foldl (· ^^^ ·) (if f.includeStart then f.startCode else 0) = 0) ∧
    (f.check = .sum → f.sent.getD (f.length - 1) 0 =
      (f.values.take (f.length - 1)).foldl (· + ·) (if f.includeStart then f.startCode else 0))
end

