-- ==== Sys2Proof/Laws/State.lean ====
section
/-! SUPPORT. What each update of the state does to each block: one lemma per block per update, all by definition. -/

namespace Sys2Proof.Machine

variable (s : State)

@[simp] theorem State.advanceTo_sli (u : Nat) : (s.advanceTo u).sli = s.sli := rfl
@[simp] theorem State.advanceTo_rqd (u : Nat) : (s.advanceTo u).rqd = s.rqd := rfl
@[simp] theorem State.advanceTo_fxe (u : Nat) : (s.advanceTo u).fxe = s.fxe := rfl
@[simp] theorem State.advanceTo_scu (u : Nat) : (s.advanceTo u).scu = { s.scu with timeUs := max s.scu.timeUs u } := rfl
@[simp] theorem State.advanceTo_pbu (u : Nat) : (s.advanceTo u).pbu = s.pbu := rfl
@[simp] theorem State.advanceTo_tku (u : Nat) : (s.advanceTo u).tku = s.tku := rfl
@[simp] theorem State.advanceTo_sku (u : Nat) : (s.advanceTo u).sku = s.sku := rfl
@[simp] theorem State.advanceTo_lnu (u : Nat) : (s.advanceTo u).lnu = s.lnu := rfl
@[simp] theorem State.advanceTo_ims (u : Nat) : (s.advanceTo u).ims = s.ims := rfl
@[simp] theorem State.advanceTo_pending (u : Nat) : (s.advanceTo u).pending = s.pending := rfl

@[simp] theorem State.raise_sli (n : Notice) : (s.raise n).sli = s.sli := rfl
@[simp] theorem State.raise_rqd (n : Notice) : (s.raise n).rqd = s.rqd.raise { time := s.localClock, notice := n } := rfl
@[simp] theorem State.raise_fxe (n : Notice) : (s.raise n).fxe = s.fxe := rfl
@[simp] theorem State.raise_scu (n : Notice) : (s.raise n).scu = s.scu := rfl
@[simp] theorem State.raise_pbu (n : Notice) : (s.raise n).pbu = s.pbu := rfl
@[simp] theorem State.raise_tku (n : Notice) : (s.raise n).tku = s.tku := rfl
@[simp] theorem State.raise_sku (n : Notice) : (s.raise n).sku = s.sku := rfl
@[simp] theorem State.raise_lnu (n : Notice) : (s.raise n).lnu = s.lnu := rfl
@[simp] theorem State.raise_ims (n : Notice) : (s.raise n).ims = s.ims := rfl
@[simp] theorem State.raise_pending (n : Notice) : (s.raise n).pending = s.pending := rfl

@[simp] theorem State.count_sli (f : Stats → Stats) : (s.count f).sli = s.sli := rfl
@[simp] theorem State.count_rqd (f : Stats → Stats) : (s.count f).rqd = { s.rqd with stats := f s.rqd.stats } := rfl
@[simp] theorem State.count_fxe (f : Stats → Stats) : (s.count f).fxe = s.fxe := rfl
@[simp] theorem State.count_scu (f : Stats → Stats) : (s.count f).scu = s.scu := rfl
@[simp] theorem State.count_pbu (f : Stats → Stats) : (s.count f).pbu = s.pbu := rfl
@[simp] theorem State.count_tku (f : Stats → Stats) : (s.count f).tku = s.tku := rfl
@[simp] theorem State.count_sku (f : Stats → Stats) : (s.count f).sku = s.sku := rfl
@[simp] theorem State.count_lnu (f : Stats → Stats) : (s.count f).lnu = s.lnu := rfl
@[simp] theorem State.count_ims (f : Stats → Stats) : (s.count f).ims = s.ims := rfl
@[simp] theorem State.count_pending (f : Stats → Stats) : (s.count f).pending = s.pending := rfl

@[simp] theorem State.pushReply_sli (r : Reply) :
    (s.pushReply r).sli =
      { s.sli with replies := s.sli.replies ++ [r], sendingSince := if s.sli.replies.isEmpty then s.scu.timeUs else s.sli.sendingSince } := rfl
@[simp] theorem State.pushReply_rqd (r : Reply) : (s.pushReply r).rqd = s.rqd := rfl
@[simp] theorem State.pushReply_fxe (r : Reply) : (s.pushReply r).fxe = s.fxe := rfl
@[simp] theorem State.pushReply_scu (r : Reply) : (s.pushReply r).scu = s.scu := rfl
@[simp] theorem State.pushReply_pbu (r : Reply) : (s.pushReply r).pbu = s.pbu := rfl
@[simp] theorem State.pushReply_tku (r : Reply) : (s.pushReply r).tku = s.tku := rfl
@[simp] theorem State.pushReply_sku (r : Reply) : (s.pushReply r).sku = s.sku := rfl
@[simp] theorem State.pushReply_lnu (r : Reply) : (s.pushReply r).lnu = s.lnu := rfl
@[simp] theorem State.pushReply_ims (r : Reply) : (s.pushReply r).ims = s.ims := rfl
@[simp] theorem State.pushReply_pending (r : Reply) : (s.pushReply r).pending = s.pending := rfl

@[simp] theorem State.dropRequest_sli : (s.dropRequest).sli = s.sli := rfl
@[simp] theorem State.dropRequest_rqd : (s.dropRequest).rqd = { s.rqd with inProgress := none } := rfl
@[simp] theorem State.dropRequest_fxe : (s.dropRequest).fxe = s.fxe := rfl
@[simp] theorem State.dropRequest_scu : (s.dropRequest).scu = s.scu := rfl
@[simp] theorem State.dropRequest_pbu : (s.dropRequest).pbu = s.pbu := rfl
@[simp] theorem State.dropRequest_tku : (s.dropRequest).tku = s.tku := rfl
@[simp] theorem State.dropRequest_sku : (s.dropRequest).sku = s.sku := rfl
@[simp] theorem State.dropRequest_lnu : (s.dropRequest).lnu = s.lnu := rfl
@[simp] theorem State.dropRequest_ims : (s.dropRequest).ims = s.ims := rfl
@[simp] theorem State.dropRequest_pending : (s.dropRequest).pending = s.pending := rfl

@[simp] theorem State.setFixture_sli (i : Fin 128) (f : Option Fixture) : (s.setFixture i f).sli = s.sli := rfl
@[simp] theorem State.setFixture_rqd (i : Fin 128) (f : Option Fixture) : (s.setFixture i f).rqd = s.rqd := rfl
@[simp] theorem State.setFixture_fxe (i : Fin 128) (f : Option Fixture) :
    (s.setFixture i f).fxe =
      { s.fxe with fixtures := s.fxe.fixtures.set i f } := rfl
@[simp] theorem State.setFixture_scu (i : Fin 128) (f : Option Fixture) : (s.setFixture i f).scu = s.scu := rfl
@[simp] theorem State.setFixture_pbu (i : Fin 128) (f : Option Fixture) : (s.setFixture i f).pbu = s.pbu := rfl
@[simp] theorem State.setFixture_tku (i : Fin 128) (f : Option Fixture) : (s.setFixture i f).tku = s.tku := rfl
@[simp] theorem State.setFixture_sku (i : Fin 128) (f : Option Fixture) : (s.setFixture i f).sku = s.sku := rfl
@[simp] theorem State.setFixture_lnu (i : Fin 128) (f : Option Fixture) : (s.setFixture i f).lnu = s.lnu := rfl
@[simp] theorem State.setFixture_ims (i : Fin 128) (f : Option Fixture) : (s.setFixture i f).ims = s.ims := rfl
@[simp] theorem State.setFixture_pending (i : Fin 128) (f : Option Fixture) : (s.setFixture i f).pending = s.pending := rfl

@[simp] theorem State.modifyLine_sli (l : Fin 8) (f : Line → Line) : (s.modifyLine l f).sli = s.sli := rfl
@[simp] theorem State.modifyLine_rqd (l : Fin 8) (f : Line → Line) : (s.modifyLine l f).rqd = s.rqd := rfl
@[simp] theorem State.modifyLine_fxe (l : Fin 8) (f : Line → Line) : (s.modifyLine l f).fxe = s.fxe := rfl
@[simp] theorem State.modifyLine_scu (l : Fin 8) (f : Line → Line) : (s.modifyLine l f).scu = s.scu := rfl
@[simp] theorem State.modifyLine_pbu (l : Fin 8) (f : Line → Line) : (s.modifyLine l f).pbu = s.pbu := rfl
@[simp] theorem State.modifyLine_tku (l : Fin 8) (f : Line → Line) : (s.modifyLine l f).tku = s.tku := rfl
@[simp] theorem State.modifyLine_sku (l : Fin 8) (f : Line → Line) : (s.modifyLine l f).sku = s.sku := rfl
@[simp] theorem State.modifyLine_lnu (l : Fin 8) (f : Line → Line) : (s.modifyLine l f).lnu = s.lnu.set l (f s.lnu[l]) := rfl
@[simp] theorem State.modifyLine_ims (l : Fin 8) (f : Line → Line) : (s.modifyLine l f).ims = s.ims := rfl
@[simp] theorem State.modifyLine_pending (l : Fin 8) (f : Line → Line) : (s.modifyLine l f).pending = s.pending := rfl

@[simp] theorem State.swapImages_sli : (s.swapImages).sli = s.sli := rfl
@[simp] theorem State.swapImages_rqd : (s.swapImages).rqd = s.rqd := rfl
@[simp] theorem State.swapImages_fxe : (s.swapImages).fxe = s.fxe := rfl
@[simp] theorem State.swapImages_scu : (s.swapImages).scu = s.scu := rfl
@[simp] theorem State.swapImages_pbu : (s.swapImages).pbu = s.pbu := rfl
@[simp] theorem State.swapImages_tku : (s.swapImages).tku = s.tku := rfl
@[simp] theorem State.swapImages_sku : (s.swapImages).sku = s.sku := rfl
@[simp] theorem State.swapImages_lnu : (s.swapImages).lnu = s.lnu.map Line.swap := rfl
@[simp] theorem State.swapImages_ims : (s.swapImages).ims = s.ims := rfl
@[simp] theorem State.swapImages_pending : (s.swapImages).pending = s.pending := rfl

@[simp] theorem State.setTrack_sli (k : Fin 4) (t : Track) : (s.setTrack k t).sli = s.sli := rfl
@[simp] theorem State.setTrack_rqd (k : Fin 4) (t : Track) : (s.setTrack k t).rqd = s.rqd := rfl
@[simp] theorem State.setTrack_fxe (k : Fin 4) (t : Track) : (s.setTrack k t).fxe = s.fxe := rfl
@[simp] theorem State.setTrack_scu (k : Fin 4) (t : Track) : (s.setTrack k t).scu = s.scu := rfl
@[simp] theorem State.setTrack_pbu (k : Fin 4) (t : Track) : (s.setTrack k t).pbu = s.pbu := rfl
@[simp] theorem State.setTrack_tku (k : Fin 4) (t : Track) : (s.setTrack k t).tku = s.tku.set k t := rfl
@[simp] theorem State.setTrack_sku (k : Fin 4) (t : Track) : (s.setTrack k t).sku = s.sku := rfl
@[simp] theorem State.setTrack_lnu (k : Fin 4) (t : Track) : (s.setTrack k t).lnu = s.lnu := rfl
@[simp] theorem State.setTrack_ims (k : Fin 4) (t : Track) : (s.setTrack k t).ims = s.ims := rfl
@[simp] theorem State.setTrack_pending (k : Fin 4) (t : Track) : (s.setTrack k t).pending = s.pending := rfl

@[simp] theorem State.setInputs_sli (r : Readings) : (s.setInputs r).sli = s.sli := rfl
@[simp] theorem State.setInputs_rqd (r : Readings) : (s.setInputs r).rqd = s.rqd := rfl
@[simp] theorem State.setInputs_fxe (r : Readings) : (s.setInputs r).fxe = s.fxe := rfl
@[simp] theorem State.setInputs_scu (r : Readings) : (s.setInputs r).scu = s.scu := rfl
@[simp] theorem State.setInputs_pbu (r : Readings) : (s.setInputs r).pbu = s.pbu := rfl
@[simp] theorem State.setInputs_tku (r : Readings) : (s.setInputs r).tku = s.tku := rfl
@[simp] theorem State.setInputs_sku (r : Readings) : (s.setInputs r).sku = { s.sku with inputs := r } := rfl
@[simp] theorem State.setInputs_lnu (r : Readings) : (s.setInputs r).lnu = s.lnu := rfl
@[simp] theorem State.setInputs_ims (r : Readings) : (s.setInputs r).ims = s.ims := rfl
@[simp] theorem State.setInputs_pending (r : Readings) : (s.setInputs r).pending = s.pending := rfl

@[simp] theorem State.setStick_sli (i : Fin 2) (k : Stick) : (s.setStick i k).sli = s.sli := rfl
@[simp] theorem State.setStick_rqd (i : Fin 2) (k : Stick) : (s.setStick i k).rqd = s.rqd := rfl
@[simp] theorem State.setStick_fxe (i : Fin 2) (k : Stick) : (s.setStick i k).fxe = s.fxe := rfl
@[simp] theorem State.setStick_scu (i : Fin 2) (k : Stick) : (s.setStick i k).scu = s.scu := rfl
@[simp] theorem State.setStick_pbu (i : Fin 2) (k : Stick) : (s.setStick i k).pbu = s.pbu := rfl
@[simp] theorem State.setStick_tku (i : Fin 2) (k : Stick) : (s.setStick i k).tku = s.tku := rfl
@[simp] theorem State.setStick_sku (i : Fin 2) (k : Stick) :
    (s.setStick i k).sku =
      { s.sku with sticks := s.sku.sticks.set i k } := rfl
@[simp] theorem State.setStick_lnu (i : Fin 2) (k : Stick) : (s.setStick i k).lnu = s.lnu := rfl
@[simp] theorem State.setStick_ims (i : Fin 2) (k : Stick) : (s.setStick i k).ims = s.ims := rfl
@[simp] theorem State.setStick_pending (i : Fin 2) (k : Stick) : (s.setStick i k).pending = s.pending := rfl

@[simp] theorem State.setCue_sli (c : Fin 96) (k : Cue) : (s.setCue c k).sli = s.sli := rfl
@[simp] theorem State.setCue_rqd (c : Fin 96) (k : Cue) : (s.setCue c k).rqd = s.rqd := rfl
@[simp] theorem State.setCue_fxe (c : Fin 96) (k : Cue) : (s.setCue c k).fxe = s.fxe := rfl
@[simp] theorem State.setCue_scu (c : Fin 96) (k : Cue) : (s.setCue c k).scu = s.scu := rfl
@[simp] theorem State.setCue_pbu (c : Fin 96) (k : Cue) :
    (s.setCue c k).pbu =
      { s.pbu with cues := s.pbu.cues.set c k } := rfl
@[simp] theorem State.setCue_tku (c : Fin 96) (k : Cue) : (s.setCue c k).tku = s.tku := rfl
@[simp] theorem State.setCue_sku (c : Fin 96) (k : Cue) : (s.setCue c k).sku = s.sku := rfl
@[simp] theorem State.setCue_lnu (c : Fin 96) (k : Cue) : (s.setCue c k).lnu = s.lnu := rfl
@[simp] theorem State.setCue_ims (c : Fin 96) (k : Cue) : (s.setCue c k).ims = s.ims := rfl
@[simp] theorem State.setCue_pending (c : Fin 96) (k : Cue) : (s.setCue c k).pending = s.pending := rfl

@[simp] theorem State.closeBuild_sli : (s.closeBuild).sli = s.sli := rfl
@[simp] theorem State.closeBuild_rqd : (s.closeBuild).rqd = s.rqd := rfl
@[simp] theorem State.closeBuild_fxe : (s.closeBuild).fxe = s.fxe := rfl
@[simp] theorem State.closeBuild_scu : (s.closeBuild).scu = s.scu := rfl
@[simp] theorem State.closeBuild_pbu : (s.closeBuild).pbu = { s.pbu with openBuild := none } := rfl
@[simp] theorem State.closeBuild_tku : (s.closeBuild).tku = s.tku := rfl
@[simp] theorem State.closeBuild_sku : (s.closeBuild).sku = s.sku := rfl
@[simp] theorem State.closeBuild_lnu : (s.closeBuild).lnu = s.lnu := rfl
@[simp] theorem State.closeBuild_ims : (s.closeBuild).ims = s.ims := rfl
@[simp] theorem State.closeBuild_pending : (s.closeBuild).pending = s.pending := rfl

@[simp] theorem State.emptyCue_sli (c : Fin 96) : (s.emptyCue c).sli = s.sli := rfl
@[simp] theorem State.emptyCue_rqd (c : Fin 96) : (s.emptyCue c).rqd = s.rqd := rfl
@[simp] theorem State.emptyCue_fxe (c : Fin 96) : (s.emptyCue c).fxe = s.fxe := rfl
@[simp] theorem State.emptyCue_scu (c : Fin 96) : (s.emptyCue c).scu = s.scu := rfl
@[simp] theorem State.emptyCue_pbu (c : Fin 96) :
    (s.emptyCue c).pbu =
      { s.pbu with cues := s.pbu.cues.set c Cue.blank, poolFree := s.pbu.poolFree + (s.cueOf c).parts.length } := rfl
@[simp] theorem State.emptyCue_tku (c : Fin 96) : (s.emptyCue c).tku = s.tku := rfl
@[simp] theorem State.emptyCue_sku (c : Fin 96) : (s.emptyCue c).sku = s.sku := rfl
@[simp] theorem State.emptyCue_lnu (c : Fin 96) : (s.emptyCue c).lnu = s.lnu := rfl
@[simp] theorem State.emptyCue_ims (c : Fin 96) : (s.emptyCue c).ims = s.ims := rfl
@[simp] theorem State.emptyCue_pending (c : Fin 96) : (s.emptyCue c).pending = s.pending := rfl

@[simp] theorem State.setCursor_sli (n : Nat) : (s.setCursor n).sli = s.sli := rfl
@[simp] theorem State.setCursor_rqd (n : Nat) : (s.setCursor n).rqd = s.rqd := rfl
@[simp] theorem State.setCursor_fxe (n : Nat) : (s.setCursor n).fxe = s.fxe := rfl
@[simp] theorem State.setCursor_scu (n : Nat) : (s.setCursor n).scu = s.scu := rfl
@[simp] theorem State.setCursor_pbu (n : Nat) : (s.setCursor n).pbu = { s.pbu with cursor := n } := rfl
@[simp] theorem State.setCursor_tku (n : Nat) : (s.setCursor n).tku = s.tku := rfl
@[simp] theorem State.setCursor_sku (n : Nat) : (s.setCursor n).sku = s.sku := rfl
@[simp] theorem State.setCursor_lnu (n : Nat) : (s.setCursor n).lnu = s.lnu := rfl
@[simp] theorem State.setCursor_ims (n : Nat) : (s.setCursor n).ims = s.ims := rfl
@[simp] theorem State.setCursor_pending (n : Nat) : (s.setCursor n).pending = s.pending := rfl

@[simp] theorem State.setShowTime_sli (t : Nat) : (s.setShowTime t).sli = s.sli := rfl
@[simp] theorem State.setShowTime_rqd (t : Nat) : (s.setShowTime t).rqd = s.rqd := rfl
@[simp] theorem State.setShowTime_fxe (t : Nat) : (s.setShowTime t).fxe = s.fxe := rfl
@[simp] theorem State.setShowTime_scu (t : Nat) : (s.setShowTime t).scu = { s.scu with showTime := t } := rfl
@[simp] theorem State.setShowTime_pbu (t : Nat) : (s.setShowTime t).pbu = s.pbu := rfl
@[simp] theorem State.setShowTime_tku (t : Nat) : (s.setShowTime t).tku = s.tku := rfl
@[simp] theorem State.setShowTime_sku (t : Nat) : (s.setShowTime t).sku = s.sku := rfl
@[simp] theorem State.setShowTime_lnu (t : Nat) : (s.setShowTime t).lnu = s.lnu := rfl
@[simp] theorem State.setShowTime_ims (t : Nat) : (s.setShowTime t).ims = s.ims := rfl
@[simp] theorem State.setShowTime_pending (t : Nat) : (s.setShowTime t).pending = s.pending := rfl

@[simp] theorem State.setLock_sli (l : Lock) : (s.setLock l).sli = s.sli := rfl
@[simp] theorem State.setLock_rqd (l : Lock) : (s.setLock l).rqd = s.rqd := rfl
@[simp] theorem State.setLock_fxe (l : Lock) : (s.setLock l).fxe = s.fxe := rfl
@[simp] theorem State.setLock_scu (l : Lock) : (s.setLock l).scu = { s.scu with lock := l } := rfl
@[simp] theorem State.setLock_pbu (l : Lock) : (s.setLock l).pbu = s.pbu := rfl
@[simp] theorem State.setLock_tku (l : Lock) : (s.setLock l).tku = s.tku := rfl
@[simp] theorem State.setLock_sku (l : Lock) : (s.setLock l).sku = s.sku := rfl
@[simp] theorem State.setLock_lnu (l : Lock) : (s.setLock l).lnu = s.lnu := rfl
@[simp] theorem State.setLock_ims (l : Lock) : (s.setLock l).ims = s.ims := rfl
@[simp] theorem State.setLock_pending (l : Lock) : (s.setLock l).pending = s.pending := rfl

@[simp] theorem State.discardSlip_sli : (s.discardSlip).sli = s.sli := rfl
@[simp] theorem State.discardSlip_rqd : (s.discardSlip).rqd = s.rqd := rfl
@[simp] theorem State.discardSlip_fxe : (s.discardSlip).fxe = s.fxe := rfl
@[simp] theorem State.discardSlip_scu : (s.discardSlip).scu = { s.scu with lock := s.scu.lock.withSlip none } := rfl
@[simp] theorem State.discardSlip_pbu : (s.discardSlip).pbu = s.pbu := rfl
@[simp] theorem State.discardSlip_tku : (s.discardSlip).tku = s.tku := rfl
@[simp] theorem State.discardSlip_sku : (s.discardSlip).sku = s.sku := rfl
@[simp] theorem State.discardSlip_lnu : (s.discardSlip).lnu = s.lnu := rfl
@[simp] theorem State.discardSlip_ims : (s.discardSlip).ims = s.ims := rfl
@[simp] theorem State.discardSlip_pending : (s.discardSlip).pending = s.pending := rfl

@[simp] theorem State.setMarkReceiver_sli (r : MarkReceiver) : (s.setMarkReceiver r).sli = s.sli := rfl
@[simp] theorem State.setMarkReceiver_rqd (r : MarkReceiver) : (s.setMarkReceiver r).rqd = s.rqd := rfl
@[simp] theorem State.setMarkReceiver_fxe (r : MarkReceiver) : (s.setMarkReceiver r).fxe = s.fxe := rfl
@[simp] theorem State.setMarkReceiver_scu (r : MarkReceiver) :
    (s.setMarkReceiver r).scu =
      { s.scu with receiver := r } := rfl
@[simp] theorem State.setMarkReceiver_pbu (r : MarkReceiver) : (s.setMarkReceiver r).pbu = s.pbu := rfl
@[simp] theorem State.setMarkReceiver_tku (r : MarkReceiver) : (s.setMarkReceiver r).tku = s.tku := rfl
@[simp] theorem State.setMarkReceiver_sku (r : MarkReceiver) : (s.setMarkReceiver r).sku = s.sku := rfl
@[simp] theorem State.setMarkReceiver_lnu (r : MarkReceiver) : (s.setMarkReceiver r).lnu = s.lnu := rfl
@[simp] theorem State.setMarkReceiver_ims (r : MarkReceiver) : (s.setMarkReceiver r).ims = s.ims := rfl
@[simp] theorem State.setMarkReceiver_pending (r : MarkReceiver) : (s.setMarkReceiver r).pending = s.pending := rfl

@[simp] theorem State.setProfile_sli (n : Fin 16) (p : Option Profile) : (s.setProfile n p).sli = s.sli := rfl
@[simp] theorem State.setProfile_rqd (n : Fin 16) (p : Option Profile) : (s.setProfile n p).rqd = s.rqd := rfl
@[simp] theorem State.setProfile_fxe (n : Fin 16) (p : Option Profile) :
    (s.setProfile n p).fxe =
      { s.fxe with profiles := s.fxe.profiles.set n p } := rfl
@[simp] theorem State.setProfile_scu (n : Fin 16) (p : Option Profile) : (s.setProfile n p).scu = s.scu := rfl
@[simp] theorem State.setProfile_pbu (n : Fin 16) (p : Option Profile) : (s.setProfile n p).pbu = s.pbu := rfl
@[simp] theorem State.setProfile_tku (n : Fin 16) (p : Option Profile) : (s.setProfile n p).tku = s.tku := rfl
@[simp] theorem State.setProfile_sku (n : Fin 16) (p : Option Profile) : (s.setProfile n p).sku = s.sku := rfl
@[simp] theorem State.setProfile_lnu (n : Fin 16) (p : Option Profile) : (s.setProfile n p).lnu = s.lnu := rfl
@[simp] theorem State.setProfile_ims (n : Fin 16) (p : Option Profile) : (s.setProfile n p).ims = s.ims := rfl
@[simp] theorem State.setProfile_pending (n : Fin 16) (p : Option Profile) : (s.setProfile n p).pending = s.pending := rfl

@[simp] theorem State.setZone_sli (n : Fin 16) (z : Zone) : (s.setZone n z).sli = s.sli := rfl
@[simp] theorem State.setZone_rqd (n : Fin 16) (z : Zone) : (s.setZone n z).rqd = s.rqd := rfl
@[simp] theorem State.setZone_fxe (n : Fin 16) (z : Zone) :
    (s.setZone n z).fxe =
      { s.fxe with zones := s.fxe.zones.set n z } := rfl
@[simp] theorem State.setZone_scu (n : Fin 16) (z : Zone) : (s.setZone n z).scu = s.scu := rfl
@[simp] theorem State.setZone_pbu (n : Fin 16) (z : Zone) : (s.setZone n z).pbu = s.pbu := rfl
@[simp] theorem State.setZone_tku (n : Fin 16) (z : Zone) : (s.setZone n z).tku = s.tku := rfl
@[simp] theorem State.setZone_sku (n : Fin 16) (z : Zone) : (s.setZone n z).sku = s.sku := rfl
@[simp] theorem State.setZone_lnu (n : Fin 16) (z : Zone) : (s.setZone n z).lnu = s.lnu := rfl
@[simp] theorem State.setZone_ims (n : Fin 16) (z : Zone) : (s.setZone n z).ims = s.ims := rfl
@[simp] theorem State.setZone_pending (n : Fin 16) (z : Zone) : (s.setZone n z).pending = s.pending := rfl

@[simp] theorem State.setPass_sli (p : Option Pass) : (s.setPass p).sli = s.sli := rfl
@[simp] theorem State.setPass_rqd (p : Option Pass) : (s.setPass p).rqd = s.rqd := rfl
@[simp] theorem State.setPass_fxe (p : Option Pass) : (s.setPass p).fxe = { s.fxe with pass := p } := rfl
@[simp] theorem State.setPass_scu (p : Option Pass) : (s.setPass p).scu = s.scu := rfl
@[simp] theorem State.setPass_pbu (p : Option Pass) : (s.setPass p).pbu = s.pbu := rfl
@[simp] theorem State.setPass_tku (p : Option Pass) : (s.setPass p).tku = s.tku := rfl
@[simp] theorem State.setPass_sku (p : Option Pass) : (s.setPass p).sku = s.sku := rfl
@[simp] theorem State.setPass_lnu (p : Option Pass) : (s.setPass p).lnu = s.lnu := rfl
@[simp] theorem State.setPass_ims (p : Option Pass) : (s.setPass p).ims = s.ims := rfl
@[simp] theorem State.setPass_pending (p : Option Pass) : (s.setPass p).pending = s.pending := rfl

@[simp] theorem State.setReceiver_sli (r : Receiver) : (s.setReceiver r).sli = { s.sli with receiver := r } := rfl
@[simp] theorem State.setReceiver_rqd (r : Receiver) : (s.setReceiver r).rqd = s.rqd := rfl
@[simp] theorem State.setReceiver_fxe (r : Receiver) : (s.setReceiver r).fxe = s.fxe := rfl
@[simp] theorem State.setReceiver_scu (r : Receiver) : (s.setReceiver r).scu = s.scu := rfl
@[simp] theorem State.setReceiver_pbu (r : Receiver) : (s.setReceiver r).pbu = s.pbu := rfl
@[simp] theorem State.setReceiver_tku (r : Receiver) : (s.setReceiver r).tku = s.tku := rfl
@[simp] theorem State.setReceiver_sku (r : Receiver) : (s.setReceiver r).sku = s.sku := rfl
@[simp] theorem State.setReceiver_lnu (r : Receiver) : (s.setReceiver r).lnu = s.lnu := rfl
@[simp] theorem State.setReceiver_ims (r : Receiver) : (s.setReceiver r).ims = s.ims := rfl
@[simp] theorem State.setReceiver_pending (r : Receiver) : (s.setReceiver r).pending = s.pending := rfl

@[simp] theorem State.nextStep_sli : (s.nextStep).sli = s.sli := rfl
@[simp] theorem State.nextStep_rqd : (s.nextStep).rqd = s.rqd := rfl
@[simp] theorem State.nextStep_fxe : (s.nextStep).fxe = s.fxe := rfl
@[simp] theorem State.nextStep_scu :
    (s.nextStep).scu =
      { s.scu with period := s.scu.waiting.getD s.scu.period, waiting := none, nextExpiry := laterBy s.scu.nextExpiry (s.scu.waiting.getD s.scu.period) } := rfl
@[simp] theorem State.nextStep_pbu : (s.nextStep).pbu = s.pbu := rfl
@[simp] theorem State.nextStep_tku : (s.nextStep).tku = s.tku := rfl
@[simp] theorem State.nextStep_sku : (s.nextStep).sku = s.sku := rfl
@[simp] theorem State.nextStep_lnu : (s.nextStep).lnu = s.lnu := rfl
@[simp] theorem State.nextStep_ims : (s.nextStep).ims = s.ims := rfl
@[simp] theorem State.nextStep_pending : (s.nextStep).pending = s.pending := rfl

@[simp] theorem State.clearCounters_sli : (s.clearCounters).sli = s.sli := rfl
@[simp] theorem State.clearCounters_rqd : (s.clearCounters).rqd = { s.rqd with stats := Stats.zero } := rfl
@[simp] theorem State.clearCounters_fxe : (s.clearCounters).fxe = s.fxe := rfl
@[simp] theorem State.clearCounters_scu : (s.clearCounters).scu = s.scu := rfl
@[simp] theorem State.clearCounters_pbu : (s.clearCounters).pbu = s.pbu := rfl
@[simp] theorem State.clearCounters_tku : (s.clearCounters).tku = s.tku := rfl
@[simp] theorem State.clearCounters_sku : (s.clearCounters).sku = s.sku := rfl
@[simp] theorem State.clearCounters_lnu : (s.clearCounters).lnu = s.lnu.map Line.clearCounters := rfl
@[simp] theorem State.clearCounters_ims : (s.clearCounters).ims = s.ims := rfl
@[simp] theorem State.clearCounters_pending : (s.clearCounters).pending = s.pending := rfl

@[simp] theorem State.emptyNotices_sli : (s.emptyNotices).sli = s.sli := rfl
@[simp] theorem State.emptyNotices_rqd :
    (s.emptyNotices).rqd =
      { s.rqd with stats := Stats.zero, notices := [], lost := 0 } := rfl
@[simp] theorem State.emptyNotices_fxe : (s.emptyNotices).fxe = s.fxe := rfl
@[simp] theorem State.emptyNotices_scu : (s.emptyNotices).scu = s.scu := rfl
@[simp] theorem State.emptyNotices_pbu : (s.emptyNotices).pbu = s.pbu := rfl
@[simp] theorem State.emptyNotices_tku : (s.emptyNotices).tku = s.tku := rfl
@[simp] theorem State.emptyNotices_sku : (s.emptyNotices).sku = s.sku := rfl
@[simp] theorem State.emptyNotices_lnu : (s.emptyNotices).lnu = s.lnu.map Line.clearCounters := rfl
@[simp] theorem State.emptyNotices_ims : (s.emptyNotices).ims = s.ims := rfl
@[simp] theorem State.emptyNotices_pending : (s.emptyNotices).pending = s.pending := rfl

@[simp] theorem State.resetRuntimes_sli : (s.resetRuntimes).sli = s.sli := rfl
@[simp] theorem State.resetRuntimes_rqd : (s.resetRuntimes).rqd = s.rqd := rfl
@[simp] theorem State.resetRuntimes_fxe :
    (s.resetRuntimes).fxe =
      { s.fxe with fixtures := s.fxe.fixtures.map fun f => f.map s.resetFixture } := rfl
@[simp] theorem State.resetRuntimes_scu : (s.resetRuntimes).scu = s.scu := rfl
@[simp] theorem State.resetRuntimes_pbu : (s.resetRuntimes).pbu = s.pbu := rfl
@[simp] theorem State.resetRuntimes_tku : (s.resetRuntimes).tku = s.tku := rfl
@[simp] theorem State.resetRuntimes_sku : (s.resetRuntimes).sku = s.sku := rfl
@[simp] theorem State.resetRuntimes_lnu : (s.resetRuntimes).lnu = s.lnu := rfl
@[simp] theorem State.resetRuntimes_ims : (s.resetRuntimes).ims = s.ims := rfl
@[simp] theorem State.resetRuntimes_pending : (s.resetRuntimes).pending = s.pending := rfl

@[simp] theorem State.restUnits_sli : (s.restUnits).sli = s.sli := rfl
@[simp] theorem State.restUnits_rqd : (s.restUnits).rqd = s.rqd := rfl
@[simp] theorem State.restUnits_fxe : (s.restUnits).fxe = s.fxe := rfl
@[simp] theorem State.restUnits_scu : (s.restUnits).scu = s.scu := rfl
@[simp] theorem State.restUnits_pbu : (s.restUnits).pbu = s.pbu := rfl
@[simp] theorem State.restUnits_tku : (s.restUnits).tku = Vector.replicate 4 Track.unbound := rfl
@[simp] theorem State.restUnits_sku : (s.restUnits).sku = { s.sku with sticks := s.sku.sticks.map Stick.rest } := rfl
@[simp] theorem State.restUnits_lnu : (s.restUnits).lnu = s.lnu := rfl
@[simp] theorem State.restUnits_ims : (s.restUnits).ims = s.ims := rfl
@[simp] theorem State.restUnits_pending : (s.restUnits).pending = s.pending := rfl

@[simp] theorem State.restClock_sli : (s.restClock).sli = s.sli := rfl
@[simp] theorem State.restClock_rqd : (s.restClock).rqd = s.rqd := rfl
@[simp] theorem State.restClock_fxe : (s.restClock).fxe = s.fxe := rfl
@[simp] theorem State.restClock_scu :
    (s.restClock).scu =
      { s.scu with showTime := 0, running := false, lock := .search } := rfl
@[simp] theorem State.restClock_pbu : (s.restClock).pbu = s.pbu := rfl
@[simp] theorem State.restClock_tku : (s.restClock).tku = s.tku := rfl
@[simp] theorem State.restClock_sku : (s.restClock).sku = s.sku := rfl
@[simp] theorem State.restClock_lnu : (s.restClock).lnu = s.lnu := rfl
@[simp] theorem State.restClock_ims : (s.restClock).ims = s.ims := rfl
@[simp] theorem State.restClock_pending : (s.restClock).pending = s.pending := rfl

@[simp] theorem State.withPending_sli (l : List Instr) : (s.withPending l).sli = s.sli := rfl
@[simp] theorem State.withPending_rqd (l : List Instr) : (s.withPending l).rqd = s.rqd := rfl
@[simp] theorem State.withPending_fxe (l : List Instr) : (s.withPending l).fxe = s.fxe := rfl
@[simp] theorem State.withPending_scu (l : List Instr) : (s.withPending l).scu = s.scu := rfl
@[simp] theorem State.withPending_pbu (l : List Instr) : (s.withPending l).pbu = s.pbu := rfl
@[simp] theorem State.withPending_tku (l : List Instr) : (s.withPending l).tku = s.tku := rfl
@[simp] theorem State.withPending_sku (l : List Instr) : (s.withPending l).sku = s.sku := rfl
@[simp] theorem State.withPending_lnu (l : List Instr) : (s.withPending l).lnu = s.lnu := rfl
@[simp] theorem State.withPending_ims (l : List Instr) : (s.withPending l).ims = s.ims := rfl
@[simp] theorem State.withPending_pending (l : List Instr) : (s.withPending l).pending = l := rfl

end Sys2Proof.Machine
end

