-- ==== Sys2Proof/Laws/Frames.lean ====
section
/-! SUPPORT. Which blocks the shared operations leave alone: one lemma per block an operation does not touch. -/

namespace Sys2Proof.Machine

set_option Elab.async false

variable (s : State)

/-- A fold keeps what each of its steps keeps. -/
theorem foldl_keeps {σ α β : Type} (p : σ → β) (f : σ → α → σ) (h : ∀ s a, p (f s a) = p s) (l : List α) (s : σ) :
    p (l.foldl f s) = p s := by
  induction l generalizing s with
  | nil => rfl
  | cons a l ih => rw [List.foldl_cons, ih, h]

@[simp] theorem State.raiseFlag_sli (i : Fin 128) (fl : FlagName) (a b : Bool) :
    (s.raiseFlag i fl a b).sli = s.sli := by unfold State.raiseFlag; (repeat' split) <;> simp
@[simp] theorem State.raiseFlag_fxe (i : Fin 128) (fl : FlagName) (a b : Bool) :
    (s.raiseFlag i fl a b).fxe = s.fxe := by unfold State.raiseFlag; (repeat' split) <;> simp
@[simp] theorem State.raiseFlag_scu (i : Fin 128) (fl : FlagName) (a b : Bool) :
    (s.raiseFlag i fl a b).scu = s.scu := by unfold State.raiseFlag; (repeat' split) <;> simp
@[simp] theorem State.raiseFlag_pbu (i : Fin 128) (fl : FlagName) (a b : Bool) :
    (s.raiseFlag i fl a b).pbu = s.pbu := by unfold State.raiseFlag; (repeat' split) <;> simp
@[simp] theorem State.raiseFlag_tku (i : Fin 128) (fl : FlagName) (a b : Bool) :
    (s.raiseFlag i fl a b).tku = s.tku := by unfold State.raiseFlag; (repeat' split) <;> simp
@[simp] theorem State.raiseFlag_sku (i : Fin 128) (fl : FlagName) (a b : Bool) :
    (s.raiseFlag i fl a b).sku = s.sku := by unfold State.raiseFlag; (repeat' split) <;> simp
@[simp] theorem State.raiseFlag_lnu (i : Fin 128) (fl : FlagName) (a b : Bool) :
    (s.raiseFlag i fl a b).lnu = s.lnu := by unfold State.raiseFlag; (repeat' split) <;> simp
@[simp] theorem State.raiseFlag_ims (i : Fin 128) (fl : FlagName) (a b : Bool) :
    (s.raiseFlag i fl a b).ims = s.ims := by unfold State.raiseFlag; (repeat' split) <;> simp
@[simp] theorem State.raiseFlag_pending (i : Fin 128) (fl : FlagName) (a b : Bool) :
    (s.raiseFlag i fl a b).pending = s.pending := by unfold State.raiseFlag; (repeat' split) <;> simp

@[simp] theorem State.raiseFlags_sli (i : Fin 128) (a b : Runtime) :
    (s.raiseFlags i a b).sli = s.sli := by simp [State.raiseFlags]
@[simp] theorem State.raiseFlags_fxe (i : Fin 128) (a b : Runtime) :
    (s.raiseFlags i a b).fxe = s.fxe := by simp [State.raiseFlags]
@[simp] theorem State.raiseFlags_scu (i : Fin 128) (a b : Runtime) :
    (s.raiseFlags i a b).scu = s.scu := by simp [State.raiseFlags]
@[simp] theorem State.raiseFlags_pbu (i : Fin 128) (a b : Runtime) :
    (s.raiseFlags i a b).pbu = s.pbu := by simp [State.raiseFlags]
@[simp] theorem State.raiseFlags_tku (i : Fin 128) (a b : Runtime) :
    (s.raiseFlags i a b).tku = s.tku := by simp [State.raiseFlags]
@[simp] theorem State.raiseFlags_sku (i : Fin 128) (a b : Runtime) :
    (s.raiseFlags i a b).sku = s.sku := by simp [State.raiseFlags]
@[simp] theorem State.raiseFlags_lnu (i : Fin 128) (a b : Runtime) :
    (s.raiseFlags i a b).lnu = s.lnu := by simp [State.raiseFlags]
@[simp] theorem State.raiseFlags_ims (i : Fin 128) (a b : Runtime) :
    (s.raiseFlags i a b).ims = s.ims := by simp [State.raiseFlags]
@[simp] theorem State.raiseFlags_pending (i : Fin 128) (a b : Runtime) :
    (s.raiseFlags i a b).pending = s.pending := by simp [State.raiseFlags]

@[simp] theorem State.joinLane_sli (r : LinkRequest) :
    (s.joinLane r).sli = s.sli := by unfold State.joinLane; (repeat' split) <;> simp
@[simp] theorem State.joinLane_fxe (r : LinkRequest) :
    (s.joinLane r).fxe = s.fxe := by unfold State.joinLane; (repeat' split) <;> simp
@[simp] theorem State.joinLane_scu (r : LinkRequest) :
    (s.joinLane r).scu = s.scu := by unfold State.joinLane; (repeat' split) <;> simp
@[simp] theorem State.joinLane_pbu (r : LinkRequest) :
    (s.joinLane r).pbu = s.pbu := by unfold State.joinLane; (repeat' split) <;> simp
@[simp] theorem State.joinLane_tku (r : LinkRequest) :
    (s.joinLane r).tku = s.tku := by unfold State.joinLane; (repeat' split) <;> simp
@[simp] theorem State.joinLane_sku (r : LinkRequest) :
    (s.joinLane r).sku = s.sku := by unfold State.joinLane; (repeat' split) <;> simp
@[simp] theorem State.joinLane_lnu (r : LinkRequest) :
    (s.joinLane r).lnu = s.lnu := by unfold State.joinLane; (repeat' split) <;> simp
@[simp] theorem State.joinLane_ims (r : LinkRequest) :
    (s.joinLane r).ims = s.ims := by unfold State.joinLane; (repeat' split) <;> simp
@[simp] theorem State.joinLane_pending (r : LinkRequest) :
    (s.joinLane r).pending = s.pending := by unfold State.joinLane; (repeat' split) <;> simp

@[simp] theorem State.beginNext_sli : (s.beginNext).sli = s.sli := by unfold State.beginNext; (repeat' split) <;> simp
@[simp] theorem State.beginNext_fxe : (s.beginNext).fxe = s.fxe := by unfold State.beginNext; (repeat' split) <;> simp
@[simp] theorem State.beginNext_scu : (s.beginNext).scu = s.scu := by unfold State.beginNext; (repeat' split) <;> simp
@[simp] theorem State.beginNext_pbu : (s.beginNext).pbu = s.pbu := by unfold State.beginNext; (repeat' split) <;> simp
@[simp] theorem State.beginNext_tku : (s.beginNext).tku = s.tku := by unfold State.beginNext; (repeat' split) <;> simp
@[simp] theorem State.beginNext_sku : (s.beginNext).sku = s.sku := by unfold State.beginNext; (repeat' split) <;> simp
@[simp] theorem State.beginNext_lnu : (s.beginNext).lnu = s.lnu := by unfold State.beginNext; (repeat' split) <;> simp
@[simp] theorem State.beginNext_ims : (s.beginNext).ims = s.ims := by unfold State.beginNext; (repeat' split) <;> simp
@[simp] theorem State.beginNext_pending :
    (s.beginNext).pending = s.pending := by unfold State.beginNext; (repeat' split) <;> simp

@[simp] theorem State.takeIn_fxe (r : LinkRequest) :
    (s.takeIn r).fxe = s.fxe := by unfold State.takeIn; (repeat' split) <;> simp
@[simp] theorem State.takeIn_scu (r : LinkRequest) :
    (s.takeIn r).scu = s.scu := by unfold State.takeIn; (repeat' split) <;> simp
@[simp] theorem State.takeIn_pbu (r : LinkRequest) :
    (s.takeIn r).pbu = s.pbu := by unfold State.takeIn; (repeat' split) <;> simp
@[simp] theorem State.takeIn_tku (r : LinkRequest) :
    (s.takeIn r).tku = s.tku := by unfold State.takeIn; (repeat' split) <;> simp
@[simp] theorem State.takeIn_sku (r : LinkRequest) :
    (s.takeIn r).sku = s.sku := by unfold State.takeIn; (repeat' split) <;> simp
@[simp] theorem State.takeIn_lnu (r : LinkRequest) :
    (s.takeIn r).lnu = s.lnu := by unfold State.takeIn; (repeat' split) <;> simp
@[simp] theorem State.takeIn_ims (r : LinkRequest) :
    (s.takeIn r).ims = s.ims := by unfold State.takeIn; (repeat' split) <;> simp
@[simp] theorem State.takeIn_pending (r : LinkRequest) :
    (s.takeIn r).pending = s.pending := by unfold State.takeIn; (repeat' split) <;> simp

@[simp] theorem State.present_fxe (r : LinkRequest) :
    (s.present r).fxe = s.fxe := by unfold State.present; (repeat' split) <;> simp
@[simp] theorem State.present_scu (r : LinkRequest) :
    (s.present r).scu = s.scu := by unfold State.present; (repeat' split) <;> simp
@[simp] theorem State.present_pbu (r : LinkRequest) :
    (s.present r).pbu = s.pbu := by unfold State.present; (repeat' split) <;> simp
@[simp] theorem State.present_tku (r : LinkRequest) :
    (s.present r).tku = s.tku := by unfold State.present; (repeat' split) <;> simp
@[simp] theorem State.present_sku (r : LinkRequest) :
    (s.present r).sku = s.sku := by unfold State.present; (repeat' split) <;> simp
@[simp] theorem State.present_lnu (r : LinkRequest) :
    (s.present r).lnu = s.lnu := by unfold State.present; (repeat' split) <;> simp
@[simp] theorem State.present_ims (r : LinkRequest) :
    (s.present r).ims = s.ims := by unfold State.present; (repeat' split) <;> simp
@[simp] theorem State.present_pending (r : LinkRequest) :
    (s.present r).pending = s.pending := by unfold State.present; (repeat' split) <;> simp

@[simp] theorem State.complete_fxe (r : LinkRequest) (a : Answer) :
    (s.complete r a).fxe = s.fxe := by unfold State.complete; (repeat' split) <;> simp
@[simp] theorem State.complete_scu (r : LinkRequest) (a : Answer) :
    (s.complete r a).scu = s.scu := by unfold State.complete; (repeat' split) <;> simp
@[simp] theorem State.complete_pbu (r : LinkRequest) (a : Answer) :
    (s.complete r a).pbu = s.pbu := by unfold State.complete; (repeat' split) <;> simp
@[simp] theorem State.complete_tku (r : LinkRequest) (a : Answer) :
    (s.complete r a).tku = s.tku := by unfold State.complete; (repeat' split) <;> simp
@[simp] theorem State.complete_sku (r : LinkRequest) (a : Answer) :
    (s.complete r a).sku = s.sku := by unfold State.complete; (repeat' split) <;> simp
@[simp] theorem State.complete_lnu (r : LinkRequest) (a : Answer) :
    (s.complete r a).lnu = s.lnu := by unfold State.complete; (repeat' split) <;> simp
@[simp] theorem State.complete_ims (r : LinkRequest) (a : Answer) :
    (s.complete r a).ims = s.ims := by unfold State.complete; (repeat' split) <;> simp
@[simp] theorem State.complete_pending (r : LinkRequest) (a : Answer) :
    (s.complete r a).pending = s.pending := by unfold State.complete; (repeat' split) <;> simp

@[simp] theorem State.modifyFixture_sli (i : Fin 128) (f : Fixture → Fixture) :
    (s.modifyFixture i f).sli = s.sli := by unfold State.modifyFixture; (repeat' split) <;> simp
@[simp] theorem State.modifyFixture_rqd (i : Fin 128) (f : Fixture → Fixture) :
    (s.modifyFixture i f).rqd = s.rqd := by unfold State.modifyFixture; (repeat' split) <;> simp
@[simp] theorem State.modifyFixture_scu (i : Fin 128) (f : Fixture → Fixture) :
    (s.modifyFixture i f).scu = s.scu := by unfold State.modifyFixture; (repeat' split) <;> simp
@[simp] theorem State.modifyFixture_pbu (i : Fin 128) (f : Fixture → Fixture) :
    (s.modifyFixture i f).pbu = s.pbu := by unfold State.modifyFixture; (repeat' split) <;> simp
@[simp] theorem State.modifyFixture_tku (i : Fin 128) (f : Fixture → Fixture) :
    (s.modifyFixture i f).tku = s.tku := by unfold State.modifyFixture; (repeat' split) <;> simp
@[simp] theorem State.modifyFixture_sku (i : Fin 128) (f : Fixture → Fixture) :
    (s.modifyFixture i f).sku = s.sku := by unfold State.modifyFixture; (repeat' split) <;> simp
@[simp] theorem State.modifyFixture_lnu (i : Fin 128) (f : Fixture → Fixture) :
    (s.modifyFixture i f).lnu = s.lnu := by unfold State.modifyFixture; (repeat' split) <;> simp
@[simp] theorem State.modifyFixture_ims (i : Fin 128) (f : Fixture → Fixture) :
    (s.modifyFixture i f).ims = s.ims := by unfold State.modifyFixture; (repeat' split) <;> simp
@[simp] theorem State.modifyFixture_pending (i : Fin 128) (f : Fixture → Fixture) :
    (s.modifyFixture i f).pending = s.pending := by unfold State.modifyFixture; (repeat' split) <;> simp

@[simp] theorem State.modifyFixtures_sli (l : List (Fin 128)) (f : Fixture → Fixture) :
    (s.modifyFixtures l f).sli = s.sli := by unfold State.modifyFixtures; exact foldl_keeps (fun x : State => x.sli) _ (fun s a => by simp) _ _
@[simp] theorem State.modifyFixtures_rqd (l : List (Fin 128)) (f : Fixture → Fixture) :
    (s.modifyFixtures l f).rqd = s.rqd := by unfold State.modifyFixtures; exact foldl_keeps (fun x : State => x.rqd) _ (fun s a => by simp) _ _
@[simp] theorem State.modifyFixtures_scu (l : List (Fin 128)) (f : Fixture → Fixture) :
    (s.modifyFixtures l f).scu = s.scu := by unfold State.modifyFixtures; exact foldl_keeps (fun x : State => x.scu) _ (fun s a => by simp) _ _
@[simp] theorem State.modifyFixtures_pbu (l : List (Fin 128)) (f : Fixture → Fixture) :
    (s.modifyFixtures l f).pbu = s.pbu := by unfold State.modifyFixtures; exact foldl_keeps (fun x : State => x.pbu) _ (fun s a => by simp) _ _
@[simp] theorem State.modifyFixtures_tku (l : List (Fin 128)) (f : Fixture → Fixture) :
    (s.modifyFixtures l f).tku = s.tku := by unfold State.modifyFixtures; exact foldl_keeps (fun x : State => x.tku) _ (fun s a => by simp) _ _
@[simp] theorem State.modifyFixtures_sku (l : List (Fin 128)) (f : Fixture → Fixture) :
    (s.modifyFixtures l f).sku = s.sku := by unfold State.modifyFixtures; exact foldl_keeps (fun x : State => x.sku) _ (fun s a => by simp) _ _
@[simp] theorem State.modifyFixtures_lnu (l : List (Fin 128)) (f : Fixture → Fixture) :
    (s.modifyFixtures l f).lnu = s.lnu := by unfold State.modifyFixtures; exact foldl_keeps (fun x : State => x.lnu) _ (fun s a => by simp) _ _
@[simp] theorem State.modifyFixtures_ims (l : List (Fin 128)) (f : Fixture → Fixture) :
    (s.modifyFixtures l f).ims = s.ims := by unfold State.modifyFixtures; exact foldl_keeps (fun x : State => x.ims) _ (fun s a => by simp) _ _
@[simp] theorem State.modifyFixtures_pending (l : List (Fin 128)) (f : Fixture → Fixture) :
    (s.modifyFixtures l f).pending = s.pending := by unfold State.modifyFixtures; exact foldl_keeps (fun x : State => x.pending) _ (fun s a => by simp) _ _

@[simp] theorem State.writeStatics_sli (f : Fixture) : (s.writeStatics f).sli = s.sli := by simp [State.writeStatics]
@[simp] theorem State.writeStatics_rqd (f : Fixture) : (s.writeStatics f).rqd = s.rqd := by simp [State.writeStatics]
@[simp] theorem State.writeStatics_fxe (f : Fixture) : (s.writeStatics f).fxe = s.fxe := by simp [State.writeStatics]
@[simp] theorem State.writeStatics_scu (f : Fixture) : (s.writeStatics f).scu = s.scu := by simp [State.writeStatics]
@[simp] theorem State.writeStatics_pbu (f : Fixture) : (s.writeStatics f).pbu = s.pbu := by simp [State.writeStatics]
@[simp] theorem State.writeStatics_tku (f : Fixture) : (s.writeStatics f).tku = s.tku := by simp [State.writeStatics]
@[simp] theorem State.writeStatics_sku (f : Fixture) : (s.writeStatics f).sku = s.sku := by simp [State.writeStatics]
@[simp] theorem State.writeStatics_ims (f : Fixture) : (s.writeStatics f).ims = s.ims := by simp [State.writeStatics]
@[simp] theorem State.writeStatics_pending (f : Fixture) :
    (s.writeStatics f).pending = s.pending := by simp [State.writeStatics]

@[simp] theorem State.clearFootprint_sli (c : FixtureConfig) :
    (s.clearFootprint c).sli = s.sli := by simp [State.clearFootprint]
@[simp] theorem State.clearFootprint_rqd (c : FixtureConfig) :
    (s.clearFootprint c).rqd = s.rqd := by simp [State.clearFootprint]
@[simp] theorem State.clearFootprint_fxe (c : FixtureConfig) :
    (s.clearFootprint c).fxe = s.fxe := by simp [State.clearFootprint]
@[simp] theorem State.clearFootprint_scu (c : FixtureConfig) :
    (s.clearFootprint c).scu = s.scu := by simp [State.clearFootprint]
@[simp] theorem State.clearFootprint_pbu (c : FixtureConfig) :
    (s.clearFootprint c).pbu = s.pbu := by simp [State.clearFootprint]
@[simp] theorem State.clearFootprint_tku (c : FixtureConfig) :
    (s.clearFootprint c).tku = s.tku := by simp [State.clearFootprint]
@[simp] theorem State.clearFootprint_sku (c : FixtureConfig) :
    (s.clearFootprint c).sku = s.sku := by simp [State.clearFootprint]
@[simp] theorem State.clearFootprint_ims (c : FixtureConfig) :
    (s.clearFootprint c).ims = s.ims := by simp [State.clearFootprint]
@[simp] theorem State.clearFootprint_pending (c : FixtureConfig) :
    (s.clearFootprint c).pending = s.pending := by simp [State.clearFootprint]

@[simp] theorem State.rebuildImages_sli : (s.rebuildImages).sli = s.sli := by
  simp only [State.rebuildImages, State.swapImages_sli]
  exact foldl_keeps (fun x : State => x.sli) _ (fun t i => by cases s.fixture? i <;> simp) _ _
@[simp] theorem State.rebuildImages_rqd : (s.rebuildImages).rqd = s.rqd := by
  simp only [State.rebuildImages, State.swapImages_rqd]
  exact foldl_keeps (fun x : State => x.rqd) _ (fun t i => by cases s.fixture? i <;> simp) _ _
@[simp] theorem State.rebuildImages_fxe : (s.rebuildImages).fxe = s.fxe := by
  simp only [State.rebuildImages, State.swapImages_fxe]
  exact foldl_keeps (fun x : State => x.fxe) _ (fun t i => by cases s.fixture? i <;> simp) _ _
@[simp] theorem State.rebuildImages_scu : (s.rebuildImages).scu = s.scu := by
  simp only [State.rebuildImages, State.swapImages_scu]
  exact foldl_keeps (fun x : State => x.scu) _ (fun t i => by cases s.fixture? i <;> simp) _ _
@[simp] theorem State.rebuildImages_pbu : (s.rebuildImages).pbu = s.pbu := by
  simp only [State.rebuildImages, State.swapImages_pbu]
  exact foldl_keeps (fun x : State => x.pbu) _ (fun t i => by cases s.fixture? i <;> simp) _ _
@[simp] theorem State.rebuildImages_tku : (s.rebuildImages).tku = s.tku := by
  simp only [State.rebuildImages, State.swapImages_tku]
  exact foldl_keeps (fun x : State => x.tku) _ (fun t i => by cases s.fixture? i <;> simp) _ _
@[simp] theorem State.rebuildImages_sku : (s.rebuildImages).sku = s.sku := by
  simp only [State.rebuildImages, State.swapImages_sku]
  exact foldl_keeps (fun x : State => x.sku) _ (fun t i => by cases s.fixture? i <;> simp) _ _
@[simp] theorem State.rebuildImages_ims : (s.rebuildImages).ims = s.ims := by
  simp only [State.rebuildImages, State.swapImages_ims]
  exact foldl_keeps (fun x : State => x.ims) _ (fun t i => by cases s.fixture? i <;> simp) _ _
@[simp] theorem State.rebuildImages_pending : (s.rebuildImages).pending = s.pending := by
  simp only [State.rebuildImages, State.swapImages_pending]
  exact foldl_keeps (fun x : State => x.pending) _ (fun t i => by cases s.fixture? i <;> simp) _ _

@[simp] theorem State.enterFault_sli (l : Fin 8) : (s.enterFault l).sli = s.sli := by simp [State.enterFault]
@[simp] theorem State.enterFault_fxe (l : Fin 8) : (s.enterFault l).fxe = s.fxe := by simp [State.enterFault]
@[simp] theorem State.enterFault_scu (l : Fin 8) : (s.enterFault l).scu = s.scu := by simp [State.enterFault]
@[simp] theorem State.enterFault_pbu (l : Fin 8) : (s.enterFault l).pbu = s.pbu := by simp [State.enterFault]
@[simp] theorem State.enterFault_tku (l : Fin 8) : (s.enterFault l).tku = s.tku := by simp [State.enterFault]
@[simp] theorem State.enterFault_sku (l : Fin 8) : (s.enterFault l).sku = s.sku := by simp [State.enterFault]
@[simp] theorem State.enterFault_ims (l : Fin 8) : (s.enterFault l).ims = s.ims := by simp [State.enterFault]
@[simp] theorem State.enterFault_pending (l : Fin 8) : (s.enterFault l).pending = s.pending := by simp [State.enterFault]

@[simp] theorem State.settleLine_sli (l : Fin 8) :
    (s.settleLine l).sli = s.sli := by unfold State.settleLine; (repeat' split) <;> simp
@[simp] theorem State.settleLine_fxe (l : Fin 8) :
    (s.settleLine l).fxe = s.fxe := by unfold State.settleLine; (repeat' split) <;> simp
@[simp] theorem State.settleLine_scu (l : Fin 8) :
    (s.settleLine l).scu = s.scu := by unfold State.settleLine; (repeat' split) <;> simp
@[simp] theorem State.settleLine_pbu (l : Fin 8) :
    (s.settleLine l).pbu = s.pbu := by unfold State.settleLine; (repeat' split) <;> simp
@[simp] theorem State.settleLine_tku (l : Fin 8) :
    (s.settleLine l).tku = s.tku := by unfold State.settleLine; (repeat' split) <;> simp
@[simp] theorem State.settleLine_sku (l : Fin 8) :
    (s.settleLine l).sku = s.sku := by unfold State.settleLine; (repeat' split) <;> simp
@[simp] theorem State.settleLine_ims (l : Fin 8) :
    (s.settleLine l).ims = s.ims := by unfold State.settleLine; (repeat' split) <;> simp
@[simp] theorem State.settleLine_pending (l : Fin 8) :
    (s.settleLine l).pending = s.pending := by unfold State.settleLine; (repeat' split) <;> simp

@[simp] theorem State.rearmLine_sli (l : Fin 8) : (s.rearmLine l).sli = s.sli := by simp [State.rearmLine]
@[simp] theorem State.rearmLine_fxe (l : Fin 8) : (s.rearmLine l).fxe = s.fxe := by simp [State.rearmLine]
@[simp] theorem State.rearmLine_scu (l : Fin 8) : (s.rearmLine l).scu = s.scu := by simp [State.rearmLine]
@[simp] theorem State.rearmLine_pbu (l : Fin 8) : (s.rearmLine l).pbu = s.pbu := by simp [State.rearmLine]
@[simp] theorem State.rearmLine_tku (l : Fin 8) : (s.rearmLine l).tku = s.tku := by simp [State.rearmLine]
@[simp] theorem State.rearmLine_sku (l : Fin 8) : (s.rearmLine l).sku = s.sku := by simp [State.rearmLine]
@[simp] theorem State.rearmLine_ims (l : Fin 8) : (s.rearmLine l).ims = s.ims := by simp [State.rearmLine]
@[simp] theorem State.rearmLine_pending (l : Fin 8) : (s.rearmLine l).pending = s.pending := by simp [State.rearmLine]

@[simp] theorem State.rearmLines_sli :
    (s.rearmLines).sli = s.sli := by unfold State.rearmLines; exact foldl_keeps (fun x : State => x.sli) _ (fun s a => by simp) _ _
@[simp] theorem State.rearmLines_fxe :
    (s.rearmLines).fxe = s.fxe := by unfold State.rearmLines; exact foldl_keeps (fun x : State => x.fxe) _ (fun s a => by simp) _ _
@[simp] theorem State.rearmLines_scu :
    (s.rearmLines).scu = s.scu := by unfold State.rearmLines; exact foldl_keeps (fun x : State => x.scu) _ (fun s a => by simp) _ _
@[simp] theorem State.rearmLines_pbu :
    (s.rearmLines).pbu = s.pbu := by unfold State.rearmLines; exact foldl_keeps (fun x : State => x.pbu) _ (fun s a => by simp) _ _
@[simp] theorem State.rearmLines_tku :
    (s.rearmLines).tku = s.tku := by unfold State.rearmLines; exact foldl_keeps (fun x : State => x.tku) _ (fun s a => by simp) _ _
@[simp] theorem State.rearmLines_sku :
    (s.rearmLines).sku = s.sku := by unfold State.rearmLines; exact foldl_keeps (fun x : State => x.sku) _ (fun s a => by simp) _ _
@[simp] theorem State.rearmLines_ims :
    (s.rearmLines).ims = s.ims := by unfold State.rearmLines; exact foldl_keeps (fun x : State => x.ims) _ (fun s a => by simp) _ _
@[simp] theorem State.rearmLines_pending :
    (s.rearmLines).pending = s.pending := by unfold State.rearmLines; exact foldl_keeps (fun x : State => x.pending) _ (fun s a => by simp) _ _

@[simp] theorem State.updateTrack_sli (k : Fin 4) (t : LocalTime) : (s.updateTrack k t).sli = s.sli := by
  unfold State.updateTrack
  split
  · rfl
  · dsimp only
    split <;> simp
@[simp] theorem State.updateTrack_fxe (k : Fin 4) (t : LocalTime) : (s.updateTrack k t).fxe = s.fxe := by
  unfold State.updateTrack
  split
  · rfl
  · dsimp only
    split <;> simp
@[simp] theorem State.updateTrack_scu (k : Fin 4) (t : LocalTime) : (s.updateTrack k t).scu = s.scu := by
  unfold State.updateTrack
  split
  · rfl
  · dsimp only
    split <;> simp
@[simp] theorem State.updateTrack_pbu (k : Fin 4) (t : LocalTime) : (s.updateTrack k t).pbu = s.pbu := by
  unfold State.updateTrack
  split
  · rfl
  · dsimp only
    split <;> simp
@[simp] theorem State.updateTrack_sku (k : Fin 4) (t : LocalTime) : (s.updateTrack k t).sku = s.sku := by
  unfold State.updateTrack
  split
  · rfl
  · dsimp only
    split <;> simp
@[simp] theorem State.updateTrack_lnu (k : Fin 4) (t : LocalTime) : (s.updateTrack k t).lnu = s.lnu := by
  unfold State.updateTrack
  split
  · rfl
  · dsimp only
    split <;> simp
@[simp] theorem State.updateTrack_ims (k : Fin 4) (t : LocalTime) : (s.updateTrack k t).ims = s.ims := by
  unfold State.updateTrack
  split
  · rfl
  · dsimp only
    split <;> simp
@[simp] theorem State.updateTrack_pending (k : Fin 4) (t : LocalTime) : (s.updateTrack k t).pending = s.pending := by
  unfold State.updateTrack
  split
  · rfl
  · dsimp only
    split <;> simp

@[simp] theorem State.updateTrackOnce_sli (k : Fin 4) (t : LocalTime) :
    (s.updateTrackOnce k t).sli = s.sli := by unfold State.updateTrackOnce; (repeat' split) <;> simp
@[simp] theorem State.updateTrackOnce_fxe (k : Fin 4) (t : LocalTime) :
    (s.updateTrackOnce k t).fxe = s.fxe := by unfold State.updateTrackOnce; (repeat' split) <;> simp
@[simp] theorem State.updateTrackOnce_scu (k : Fin 4) (t : LocalTime) :
    (s.updateTrackOnce k t).scu = s.scu := by unfold State.updateTrackOnce; (repeat' split) <;> simp
@[simp] theorem State.updateTrackOnce_pbu (k : Fin 4) (t : LocalTime) :
    (s.updateTrackOnce k t).pbu = s.pbu := by unfold State.updateTrackOnce; (repeat' split) <;> simp
@[simp] theorem State.updateTrackOnce_sku (k : Fin 4) (t : LocalTime) :
    (s.updateTrackOnce k t).sku = s.sku := by unfold State.updateTrackOnce; (repeat' split) <;> simp
@[simp] theorem State.updateTrackOnce_lnu (k : Fin 4) (t : LocalTime) :
    (s.updateTrackOnce k t).lnu = s.lnu := by unfold State.updateTrackOnce; (repeat' split) <;> simp
@[simp] theorem State.updateTrackOnce_ims (k : Fin 4) (t : LocalTime) :
    (s.updateTrackOnce k t).ims = s.ims := by unfold State.updateTrackOnce; (repeat' split) <;> simp
@[simp] theorem State.updateTrackOnce_pending (k : Fin 4) (t : LocalTime) :
    (s.updateTrackOnce k t).pending = s.pending := by unfold State.updateTrackOnce; (repeat' split) <;> simp

@[simp] theorem State.updateMemberless_sli (t : LocalTime) :
    (s.updateMemberless t).sli = s.sli := by unfold State.updateMemberless; exact foldl_keeps (fun x : State => x.sli) _ (fun s a => by split <;> simp) _ _
@[simp] theorem State.updateMemberless_fxe (t : LocalTime) :
    (s.updateMemberless t).fxe = s.fxe := by unfold State.updateMemberless; exact foldl_keeps (fun x : State => x.fxe) _ (fun s a => by split <;> simp) _ _
@[simp] theorem State.updateMemberless_scu (t : LocalTime) :
    (s.updateMemberless t).scu = s.scu := by unfold State.updateMemberless; exact foldl_keeps (fun x : State => x.scu) _ (fun s a => by split <;> simp) _ _
@[simp] theorem State.updateMemberless_pbu (t : LocalTime) :
    (s.updateMemberless t).pbu = s.pbu := by unfold State.updateMemberless; exact foldl_keeps (fun x : State => x.pbu) _ (fun s a => by split <;> simp) _ _
@[simp] theorem State.updateMemberless_sku (t : LocalTime) :
    (s.updateMemberless t).sku = s.sku := by unfold State.updateMemberless; exact foldl_keeps (fun x : State => x.sku) _ (fun s a => by split <;> simp) _ _
@[simp] theorem State.updateMemberless_lnu (t : LocalTime) :
    (s.updateMemberless t).lnu = s.lnu := by unfold State.updateMemberless; exact foldl_keeps (fun x : State => x.lnu) _ (fun s a => by split <;> simp) _ _
@[simp] theorem State.updateMemberless_ims (t : LocalTime) :
    (s.updateMemberless t).ims = s.ims := by unfold State.updateMemberless; exact foldl_keeps (fun x : State => x.ims) _ (fun s a => by split <;> simp) _ _
@[simp] theorem State.updateMemberless_pending (t : LocalTime) :
    (s.updateMemberless t).pending = s.pending := by unfold State.updateMemberless; exact foldl_keeps (fun x : State => x.pending) _ (fun s a => by split <;> simp) _ _

@[simp] theorem State.updateRemaining_sli (t : LocalTime) :
    (s.updateRemaining t).sli = s.sli := by unfold State.updateRemaining; exact foldl_keeps (fun x : State => x.sli) _ (fun s a => by simp) _ _
@[simp] theorem State.updateRemaining_fxe (t : LocalTime) :
    (s.updateRemaining t).fxe = s.fxe := by unfold State.updateRemaining; exact foldl_keeps (fun x : State => x.fxe) _ (fun s a => by simp) _ _
@[simp] theorem State.updateRemaining_scu (t : LocalTime) :
    (s.updateRemaining t).scu = s.scu := by unfold State.updateRemaining; exact foldl_keeps (fun x : State => x.scu) _ (fun s a => by simp) _ _
@[simp] theorem State.updateRemaining_pbu (t : LocalTime) :
    (s.updateRemaining t).pbu = s.pbu := by unfold State.updateRemaining; exact foldl_keeps (fun x : State => x.pbu) _ (fun s a => by simp) _ _
@[simp] theorem State.updateRemaining_sku (t : LocalTime) :
    (s.updateRemaining t).sku = s.sku := by unfold State.updateRemaining; exact foldl_keeps (fun x : State => x.sku) _ (fun s a => by simp) _ _
@[simp] theorem State.updateRemaining_lnu (t : LocalTime) :
    (s.updateRemaining t).lnu = s.lnu := by unfold State.updateRemaining; exact foldl_keeps (fun x : State => x.lnu) _ (fun s a => by simp) _ _
@[simp] theorem State.updateRemaining_ims (t : LocalTime) :
    (s.updateRemaining t).ims = s.ims := by unfold State.updateRemaining; exact foldl_keeps (fun x : State => x.ims) _ (fun s a => by simp) _ _
@[simp] theorem State.updateRemaining_pending (t : LocalTime) :
    (s.updateRemaining t).pending = s.pending := by unfold State.updateRemaining; exact foldl_keeps (fun x : State => x.pending) _ (fun s a => by simp) _ _

@[simp] theorem State.releaseTrack_sli (k : Fin 4) : (s.releaseTrack k).sli = s.sli := by simp [State.releaseTrack]
@[simp] theorem State.releaseTrack_rqd (k : Fin 4) : (s.releaseTrack k).rqd = s.rqd := by simp [State.releaseTrack]
@[simp] theorem State.releaseTrack_scu (k : Fin 4) : (s.releaseTrack k).scu = s.scu := by simp [State.releaseTrack]
@[simp] theorem State.releaseTrack_pbu (k : Fin 4) : (s.releaseTrack k).pbu = s.pbu := by simp [State.releaseTrack]
@[simp] theorem State.releaseTrack_sku (k : Fin 4) : (s.releaseTrack k).sku = s.sku := by simp [State.releaseTrack]
@[simp] theorem State.releaseTrack_lnu (k : Fin 4) : (s.releaseTrack k).lnu = s.lnu := by simp [State.releaseTrack]
@[simp] theorem State.releaseTrack_ims (k : Fin 4) : (s.releaseTrack k).ims = s.ims := by simp [State.releaseTrack]
@[simp] theorem State.releaseTrack_pending (k : Fin 4) :
    (s.releaseTrack k).pending = s.pending := by simp [State.releaseTrack]

@[simp] theorem State.raiseFaultChange_sli (i : Fin 2) (ax : Axis) (a b : Bool) :
    (s.raiseFaultChange i ax a b).sli = s.sli := by unfold State.raiseFaultChange; (repeat' split) <;> simp
@[simp] theorem State.raiseFaultChange_fxe (i : Fin 2) (ax : Axis) (a b : Bool) :
    (s.raiseFaultChange i ax a b).fxe = s.fxe := by unfold State.raiseFaultChange; (repeat' split) <;> simp
@[simp] theorem State.raiseFaultChange_scu (i : Fin 2) (ax : Axis) (a b : Bool) :
    (s.raiseFaultChange i ax a b).scu = s.scu := by unfold State.raiseFaultChange; (repeat' split) <;> simp
@[simp] theorem State.raiseFaultChange_pbu (i : Fin 2) (ax : Axis) (a b : Bool) :
    (s.raiseFaultChange i ax a b).pbu = s.pbu := by unfold State.raiseFaultChange; (repeat' split) <;> simp
@[simp] theorem State.raiseFaultChange_tku (i : Fin 2) (ax : Axis) (a b : Bool) :
    (s.raiseFaultChange i ax a b).tku = s.tku := by unfold State.raiseFaultChange; (repeat' split) <;> simp
@[simp] theorem State.raiseFaultChange_sku (i : Fin 2) (ax : Axis) (a b : Bool) :
    (s.raiseFaultChange i ax a b).sku = s.sku := by unfold State.raiseFaultChange; (repeat' split) <;> simp
@[simp] theorem State.raiseFaultChange_lnu (i : Fin 2) (ax : Axis) (a b : Bool) :
    (s.raiseFaultChange i ax a b).lnu = s.lnu := by unfold State.raiseFaultChange; (repeat' split) <;> simp
@[simp] theorem State.raiseFaultChange_ims (i : Fin 2) (ax : Axis) (a b : Bool) :
    (s.raiseFaultChange i ax a b).ims = s.ims := by unfold State.raiseFaultChange; (repeat' split) <;> simp
@[simp] theorem State.raiseFaultChange_pending (i : Fin 2) (ax : Axis) (a b : Bool) :
    (s.raiseFaultChange i ax a b).pending = s.pending := by unfold State.raiseFaultChange; (repeat' split) <;> simp

@[simp] theorem State.convert_sli (i : Fin 2) (x y : Nat) : (s.convert i x y).sli = s.sli := by simp [State.convert]
@[simp] theorem State.convert_fxe (i : Fin 2) (x y : Nat) : (s.convert i x y).fxe = s.fxe := by simp [State.convert]
@[simp] theorem State.convert_scu (i : Fin 2) (x y : Nat) : (s.convert i x y).scu = s.scu := by simp [State.convert]
@[simp] theorem State.convert_pbu (i : Fin 2) (x y : Nat) : (s.convert i x y).pbu = s.pbu := by simp [State.convert]
@[simp] theorem State.convert_tku (i : Fin 2) (x y : Nat) : (s.convert i x y).tku = s.tku := by simp [State.convert]
@[simp] theorem State.convert_lnu (i : Fin 2) (x y : Nat) : (s.convert i x y).lnu = s.lnu := by simp [State.convert]
@[simp] theorem State.convert_ims (i : Fin 2) (x y : Nat) : (s.convert i x y).ims = s.ims := by simp [State.convert]
@[simp] theorem State.convert_pending (i : Fin 2) (x y : Nat) :
    (s.convert i x y).pending = s.pending := by simp [State.convert]

@[simp] theorem State.sampleStick_sli (r : Readings) (n : Nat) (i : Fin 2) :
    (s.sampleStick r n i).sli = s.sli := by unfold State.sampleStick; (repeat' split) <;> simp
@[simp] theorem State.sampleStick_fxe (r : Readings) (n : Nat) (i : Fin 2) :
    (s.sampleStick r n i).fxe = s.fxe := by unfold State.sampleStick; (repeat' split) <;> simp
@[simp] theorem State.sampleStick_scu (r : Readings) (n : Nat) (i : Fin 2) :
    (s.sampleStick r n i).scu = s.scu := by unfold State.sampleStick; (repeat' split) <;> simp
@[simp] theorem State.sampleStick_pbu (r : Readings) (n : Nat) (i : Fin 2) :
    (s.sampleStick r n i).pbu = s.pbu := by unfold State.sampleStick; (repeat' split) <;> simp
@[simp] theorem State.sampleStick_tku (r : Readings) (n : Nat) (i : Fin 2) :
    (s.sampleStick r n i).tku = s.tku := by unfold State.sampleStick; (repeat' split) <;> simp
@[simp] theorem State.sampleStick_lnu (r : Readings) (n : Nat) (i : Fin 2) :
    (s.sampleStick r n i).lnu = s.lnu := by unfold State.sampleStick; (repeat' split) <;> simp
@[simp] theorem State.sampleStick_ims (r : Readings) (n : Nat) (i : Fin 2) :
    (s.sampleStick r n i).ims = s.ims := by unfold State.sampleStick; (repeat' split) <;> simp
@[simp] theorem State.sampleStick_pending (r : Readings) (n : Nat) (i : Fin 2) :
    (s.sampleStick r n i).pending = s.pending := by unfold State.sampleStick; (repeat' split) <;> simp

@[simp] theorem State.sampleSticks_sli (r : Readings) (n : Nat) :
    (s.sampleSticks r n).sli = s.sli := by simp [State.sampleSticks]
@[simp] theorem State.sampleSticks_fxe (r : Readings) (n : Nat) :
    (s.sampleSticks r n).fxe = s.fxe := by simp [State.sampleSticks]
@[simp] theorem State.sampleSticks_scu (r : Readings) (n : Nat) :
    (s.sampleSticks r n).scu = s.scu := by simp [State.sampleSticks]
@[simp] theorem State.sampleSticks_pbu (r : Readings) (n : Nat) :
    (s.sampleSticks r n).pbu = s.pbu := by simp [State.sampleSticks]
@[simp] theorem State.sampleSticks_tku (r : Readings) (n : Nat) :
    (s.sampleSticks r n).tku = s.tku := by simp [State.sampleSticks]
@[simp] theorem State.sampleSticks_lnu (r : Readings) (n : Nat) :
    (s.sampleSticks r n).lnu = s.lnu := by simp [State.sampleSticks]
@[simp] theorem State.sampleSticks_ims (r : Readings) (n : Nat) :
    (s.sampleSticks r n).ims = s.ims := by simp [State.sampleSticks]
@[simp] theorem State.sampleSticks_pending (r : Readings) (n : Nat) :
    (s.sampleSticks r n).pending = s.pending := by simp [State.sampleSticks]

@[simp] theorem State.setRunning_sli (r : Bool) : (s.setRunning r).sli = s.sli := by
  unfold State.setRunning
  split <;> rfl
@[simp] theorem State.setRunning_fxe (r : Bool) : (s.setRunning r).fxe = s.fxe := by
  unfold State.setRunning
  split <;> rfl
@[simp] theorem State.setRunning_pbu (r : Bool) : (s.setRunning r).pbu = s.pbu := by
  unfold State.setRunning
  split <;> rfl
@[simp] theorem State.setRunning_tku (r : Bool) : (s.setRunning r).tku = s.tku := by
  unfold State.setRunning
  split <;> rfl
@[simp] theorem State.setRunning_sku (r : Bool) : (s.setRunning r).sku = s.sku := by
  unfold State.setRunning
  split <;> rfl
@[simp] theorem State.setRunning_lnu (r : Bool) : (s.setRunning r).lnu = s.lnu := by
  unfold State.setRunning
  split <;> rfl
@[simp] theorem State.setRunning_ims (r : Bool) : (s.setRunning r).ims = s.ims := by
  unfold State.setRunning
  split <;> rfl
@[simp] theorem State.setRunning_pending (r : Bool) : (s.setRunning r).pending = s.pending := by
  unfold State.setRunning
  split <;> rfl

@[simp] theorem State.enterLock_sli (l : Lock) : (s.enterLock l).sli = s.sli := by simp [State.enterLock]
@[simp] theorem State.enterLock_fxe (l : Lock) : (s.enterLock l).fxe = s.fxe := by simp [State.enterLock]
@[simp] theorem State.enterLock_pbu (l : Lock) : (s.enterLock l).pbu = s.pbu := by simp [State.enterLock]
@[simp] theorem State.enterLock_tku (l : Lock) : (s.enterLock l).tku = s.tku := by simp [State.enterLock]
@[simp] theorem State.enterLock_sku (l : Lock) : (s.enterLock l).sku = s.sku := by simp [State.enterLock]
@[simp] theorem State.enterLock_lnu (l : Lock) : (s.enterLock l).lnu = s.lnu := by simp [State.enterLock]
@[simp] theorem State.enterLock_ims (l : Lock) : (s.enterLock l).ims = s.ims := by simp [State.enterLock]
@[simp] theorem State.enterLock_pending (l : Lock) : (s.enterLock l).pending = s.pending := by simp [State.enterLock]

@[simp] theorem State.abortBuild_sli : (s.abortBuild).sli = s.sli := by unfold State.abortBuild; (repeat' split) <;> simp
@[simp] theorem State.abortBuild_rqd : (s.abortBuild).rqd = s.rqd := by unfold State.abortBuild; (repeat' split) <;> simp
@[simp] theorem State.abortBuild_fxe : (s.abortBuild).fxe = s.fxe := by unfold State.abortBuild; (repeat' split) <;> simp
@[simp] theorem State.abortBuild_scu : (s.abortBuild).scu = s.scu := by unfold State.abortBuild; (repeat' split) <;> simp
@[simp] theorem State.abortBuild_tku : (s.abortBuild).tku = s.tku := by unfold State.abortBuild; (repeat' split) <;> simp
@[simp] theorem State.abortBuild_sku : (s.abortBuild).sku = s.sku := by unfold State.abortBuild; (repeat' split) <;> simp
@[simp] theorem State.abortBuild_lnu : (s.abortBuild).lnu = s.lnu := by unfold State.abortBuild; (repeat' split) <;> simp
@[simp] theorem State.abortBuild_ims : (s.abortBuild).ims = s.ims := by unfold State.abortBuild; (repeat' split) <;> simp
@[simp] theorem State.abortBuild_pending :
    (s.abortBuild).pending = s.pending := by unfold State.abortBuild; (repeat' split) <;> simp

@[simp] theorem Firing.walk_sli (w : Firing) (l : List PartRecord) (x : State × Nat × Nat) :
    (w.walk l x).1.sli = x.1.sli := by
  induction l generalizing x with
  | nil => rfl
  | cons p l ih => simp [Firing.walk, ih]
@[simp] theorem Firing.walk_rqd (w : Firing) (l : List PartRecord) (x : State × Nat × Nat) :
    (w.walk l x).1.rqd = x.1.rqd := by
  induction l generalizing x with
  | nil => rfl
  | cons p l ih => simp [Firing.walk, ih]
@[simp] theorem Firing.walk_scu (w : Firing) (l : List PartRecord) (x : State × Nat × Nat) :
    (w.walk l x).1.scu = x.1.scu := by
  induction l generalizing x with
  | nil => rfl
  | cons p l ih => simp [Firing.walk, ih]
@[simp] theorem Firing.walk_pbu (w : Firing) (l : List PartRecord) (x : State × Nat × Nat) :
    (w.walk l x).1.pbu = x.1.pbu := by
  induction l generalizing x with
  | nil => rfl
  | cons p l ih => simp [Firing.walk, ih]
@[simp] theorem Firing.walk_tku (w : Firing) (l : List PartRecord) (x : State × Nat × Nat) :
    (w.walk l x).1.tku = x.1.tku := by
  induction l generalizing x with
  | nil => rfl
  | cons p l ih => simp [Firing.walk, ih]
@[simp] theorem Firing.walk_sku (w : Firing) (l : List PartRecord) (x : State × Nat × Nat) :
    (w.walk l x).1.sku = x.1.sku := by
  induction l generalizing x with
  | nil => rfl
  | cons p l ih => simp [Firing.walk, ih]
@[simp] theorem Firing.walk_lnu (w : Firing) (l : List PartRecord) (x : State × Nat × Nat) :
    (w.walk l x).1.lnu = x.1.lnu := by
  induction l generalizing x with
  | nil => rfl
  | cons p l ih => simp [Firing.walk, ih]
@[simp] theorem Firing.walk_ims (w : Firing) (l : List PartRecord) (x : State × Nat × Nat) :
    (w.walk l x).1.ims = x.1.ims := by
  induction l generalizing x with
  | nil => rfl
  | cons p l ih => simp [Firing.walk, ih]
@[simp] theorem Firing.walk_pending (w : Firing) (l : List PartRecord) (x : State × Nat × Nat) :
    (w.walk l x).1.pending = x.1.pending := by
  induction l generalizing x with
  | nil => rfl
  | cons p l ih => simp [Firing.walk, ih]

@[simp] theorem State.fireEntry_sli (b : Bool) (e : TimelineEntry) : (State.fireEntry b s e).sli = s.sli := by
  unfold State.fireEntry
  split <;> simp
@[simp] theorem State.fireEntry_scu (b : Bool) (e : TimelineEntry) : (State.fireEntry b s e).scu = s.scu := by
  unfold State.fireEntry
  split <;> simp
@[simp] theorem State.fireEntry_pbu (b : Bool) (e : TimelineEntry) : (State.fireEntry b s e).pbu = s.pbu := by
  unfold State.fireEntry
  split <;> simp
@[simp] theorem State.fireEntry_tku (b : Bool) (e : TimelineEntry) : (State.fireEntry b s e).tku = s.tku := by
  unfold State.fireEntry
  split <;> simp
@[simp] theorem State.fireEntry_sku (b : Bool) (e : TimelineEntry) : (State.fireEntry b s e).sku = s.sku := by
  unfold State.fireEntry
  split <;> simp
@[simp] theorem State.fireEntry_lnu (b : Bool) (e : TimelineEntry) : (State.fireEntry b s e).lnu = s.lnu := by
  unfold State.fireEntry
  split <;> simp
@[simp] theorem State.fireEntry_ims (b : Bool) (e : TimelineEntry) : (State.fireEntry b s e).ims = s.ims := by
  unfold State.fireEntry
  split <;> simp
@[simp] theorem State.fireEntry_pending (b : Bool) (e : TimelineEntry) : (State.fireEntry b s e).pending = s.pending := by
  unfold State.fireEntry
  split <;> simp

@[simp] theorem State.reportForward_sli (b : Bool) (t : Nat) : (s.reportForward b t).sli = s.sli := by
  simp only [State.reportForward, State.setCursor_sli]
  exact foldl_keeps (fun x : State => x.sli) _ (fun t e => State.fireEntry_sli t b e) _ _
@[simp] theorem State.reportForward_scu (b : Bool) (t : Nat) : (s.reportForward b t).scu = s.scu := by
  simp only [State.reportForward, State.setCursor_scu]
  exact foldl_keeps (fun x : State => x.scu) _ (fun t e => State.fireEntry_scu t b e) _ _
@[simp] theorem State.reportForward_tku (b : Bool) (t : Nat) : (s.reportForward b t).tku = s.tku := by
  simp only [State.reportForward, State.setCursor_tku]
  exact foldl_keeps (fun x : State => x.tku) _ (fun t e => State.fireEntry_tku t b e) _ _
@[simp] theorem State.reportForward_sku (b : Bool) (t : Nat) : (s.reportForward b t).sku = s.sku := by
  simp only [State.reportForward, State.setCursor_sku]
  exact foldl_keeps (fun x : State => x.sku) _ (fun t e => State.fireEntry_sku t b e) _ _
@[simp] theorem State.reportForward_lnu (b : Bool) (t : Nat) : (s.reportForward b t).lnu = s.lnu := by
  simp only [State.reportForward, State.setCursor_lnu]
  exact foldl_keeps (fun x : State => x.lnu) _ (fun t e => State.fireEntry_lnu t b e) _ _
@[simp] theorem State.reportForward_ims (b : Bool) (t : Nat) : (s.reportForward b t).ims = s.ims := by
  simp only [State.reportForward, State.setCursor_ims]
  exact foldl_keeps (fun x : State => x.ims) _ (fun t e => State.fireEntry_ims t b e) _ _
@[simp] theorem State.reportForward_pending (b : Bool) (t : Nat) : (s.reportForward b t).pending = s.pending := by
  simp only [State.reportForward, State.setCursor_pending]
  exact foldl_keeps (fun x : State => x.pending) _ (fun t e => State.fireEntry_pending t b e) _ _

@[simp] theorem State.reportBackward_sli (t : Nat) : (s.reportBackward t).sli = s.sli := by simp [State.reportBackward]
@[simp] theorem State.reportBackward_rqd (t : Nat) : (s.reportBackward t).rqd = s.rqd := by simp [State.reportBackward]
@[simp] theorem State.reportBackward_fxe (t : Nat) : (s.reportBackward t).fxe = s.fxe := by simp [State.reportBackward]
@[simp] theorem State.reportBackward_scu (t : Nat) : (s.reportBackward t).scu = s.scu := by simp [State.reportBackward]
@[simp] theorem State.reportBackward_tku (t : Nat) : (s.reportBackward t).tku = s.tku := by simp [State.reportBackward]
@[simp] theorem State.reportBackward_sku (t : Nat) : (s.reportBackward t).sku = s.sku := by simp [State.reportBackward]
@[simp] theorem State.reportBackward_lnu (t : Nat) : (s.reportBackward t).lnu = s.lnu := by simp [State.reportBackward]
@[simp] theorem State.reportBackward_ims (t : Nat) : (s.reportBackward t).ims = s.ims := by simp [State.reportBackward]
@[simp] theorem State.reportBackward_pending (t : Nat) :
    (s.reportBackward t).pending = s.pending := by simp [State.reportBackward]

@[simp] theorem State.jumpTo_sli (t : Nat) : (s.jumpTo t).sli = s.sli := by
  unfold State.jumpTo
  dsimp only
  split <;> simp
@[simp] theorem State.jumpTo_tku (t : Nat) : (s.jumpTo t).tku = s.tku := by
  unfold State.jumpTo
  dsimp only
  split <;> simp
@[simp] theorem State.jumpTo_sku (t : Nat) : (s.jumpTo t).sku = s.sku := by
  unfold State.jumpTo
  dsimp only
  split <;> simp
@[simp] theorem State.jumpTo_lnu (t : Nat) : (s.jumpTo t).lnu = s.lnu := by
  unfold State.jumpTo
  dsimp only
  split <;> simp
@[simp] theorem State.jumpTo_ims (t : Nat) : (s.jumpTo t).ims = s.ims := by
  unfold State.jumpTo
  dsimp only
  split <;> simp
@[simp] theorem State.jumpTo_pending (t : Nat) : (s.jumpTo t).pending = s.pending := by
  unfold State.jumpTo
  dsimp only
  split <;> simp

@[simp] theorem State.relocate_sli (t : Nat) : (s.relocate t).sli = s.sli := by
  unfold State.relocate
  dsimp only
  (repeat' split) <;> simp
@[simp] theorem State.relocate_tku (t : Nat) : (s.relocate t).tku = s.tku := by
  unfold State.relocate
  dsimp only
  (repeat' split) <;> simp
@[simp] theorem State.relocate_sku (t : Nat) : (s.relocate t).sku = s.sku := by
  unfold State.relocate
  dsimp only
  (repeat' split) <;> simp
@[simp] theorem State.relocate_lnu (t : Nat) : (s.relocate t).lnu = s.lnu := by
  unfold State.relocate
  dsimp only
  (repeat' split) <;> simp
@[simp] theorem State.relocate_ims (t : Nat) : (s.relocate t).ims = s.ims := by
  unfold State.relocate
  dsimp only
  (repeat' split) <;> simp
@[simp] theorem State.relocate_pending (t : Nat) : (s.relocate t).pending = s.pending := by
  unfold State.relocate
  dsimp only
  (repeat' split) <;> simp

@[simp] theorem State.slipDecision_sli (m : Mark) (e : Int) : (s.slipDecision m e).sli = s.sli := by
  unfold State.slipDecision
  dsimp only
  (repeat' split) <;> simp
@[simp] theorem State.slipDecision_rqd (m : Mark) (e : Int) : (s.slipDecision m e).rqd = s.rqd := by
  unfold State.slipDecision
  dsimp only
  (repeat' split) <;> simp
@[simp] theorem State.slipDecision_fxe (m : Mark) (e : Int) : (s.slipDecision m e).fxe = s.fxe := by
  unfold State.slipDecision
  dsimp only
  (repeat' split) <;> simp
@[simp] theorem State.slipDecision_pbu (m : Mark) (e : Int) : (s.slipDecision m e).pbu = s.pbu := by
  unfold State.slipDecision
  dsimp only
  (repeat' split) <;> simp
@[simp] theorem State.slipDecision_tku (m : Mark) (e : Int) : (s.slipDecision m e).tku = s.tku := by
  unfold State.slipDecision
  dsimp only
  (repeat' split) <;> simp
@[simp] theorem State.slipDecision_sku (m : Mark) (e : Int) : (s.slipDecision m e).sku = s.sku := by
  unfold State.slipDecision
  dsimp only
  (repeat' split) <;> simp
@[simp] theorem State.slipDecision_lnu (m : Mark) (e : Int) : (s.slipDecision m e).lnu = s.lnu := by
  unfold State.slipDecision
  dsimp only
  (repeat' split) <;> simp
@[simp] theorem State.slipDecision_ims (m : Mark) (e : Int) : (s.slipDecision m e).ims = s.ims := by
  unfold State.slipDecision
  dsimp only
  (repeat' split) <;> simp
@[simp] theorem State.slipDecision_pending (m : Mark) (e : Int) : (s.slipDecision m e).pending = s.pending := by
  unfold State.slipDecision
  dsimp only
  (repeat' split) <;> simp

@[simp] theorem State.actOnMark_sli (m : Mark) :
    (s.actOnMark m).sli = s.sli := by unfold State.actOnMark; (repeat' split) <;> simp
@[simp] theorem State.actOnMark_tku (m : Mark) :
    (s.actOnMark m).tku = s.tku := by unfold State.actOnMark; (repeat' split) <;> simp
@[simp] theorem State.actOnMark_sku (m : Mark) :
    (s.actOnMark m).sku = s.sku := by unfold State.actOnMark; (repeat' split) <;> simp
@[simp] theorem State.actOnMark_lnu (m : Mark) :
    (s.actOnMark m).lnu = s.lnu := by unfold State.actOnMark; (repeat' split) <;> simp
@[simp] theorem State.actOnMark_ims (m : Mark) :
    (s.actOnMark m).ims = s.ims := by unfold State.actOnMark; (repeat' split) <;> simp
@[simp] theorem State.actOnMark_pending (m : Mark) :
    (s.actOnMark m).pending = s.pending := by unfold State.actOnMark; (repeat' split) <;> simp

@[simp] theorem State.enterLocked_sli (m : Mark) : (s.enterLocked m).sli = s.sli := by
  unfold State.enterLocked
  dsimp only
  split <;> simp
@[simp] theorem State.enterLocked_tku (m : Mark) : (s.enterLocked m).tku = s.tku := by
  unfold State.enterLocked
  dsimp only
  split <;> simp
@[simp] theorem State.enterLocked_sku (m : Mark) : (s.enterLocked m).sku = s.sku := by
  unfold State.enterLocked
  dsimp only
  split <;> simp
@[simp] theorem State.enterLocked_lnu (m : Mark) : (s.enterLocked m).lnu = s.lnu := by
  unfold State.enterLocked
  dsimp only
  split <;> simp
@[simp] theorem State.enterLocked_ims (m : Mark) : (s.enterLocked m).ims = s.ims := by
  unfold State.enterLocked
  dsimp only
  split <;> simp
@[simp] theorem State.enterLocked_pending (m : Mark) : (s.enterLocked m).pending = s.pending := by
  unfold State.enterLocked
  dsimp only
  split <;> simp

@[simp] theorem State.countBad_sli (r : Mark) (n : Nat) (w : LocalTime) (c : Option Mark) (x : Option Slip) :
    (s.countBad r n w c x).sli = s.sli := by unfold State.countBad; (repeat' split) <;> simp
@[simp] theorem State.countBad_fxe (r : Mark) (n : Nat) (w : LocalTime) (c : Option Mark) (x : Option Slip) :
    (s.countBad r n w c x).fxe = s.fxe := by unfold State.countBad; (repeat' split) <;> simp
@[simp] theorem State.countBad_pbu (r : Mark) (n : Nat) (w : LocalTime) (c : Option Mark) (x : Option Slip) :
    (s.countBad r n w c x).pbu = s.pbu := by unfold State.countBad; (repeat' split) <;> simp
@[simp] theorem State.countBad_tku (r : Mark) (n : Nat) (w : LocalTime) (c : Option Mark) (x : Option Slip) :
    (s.countBad r n w c x).tku = s.tku := by unfold State.countBad; (repeat' split) <;> simp
@[simp] theorem State.countBad_sku (r : Mark) (n : Nat) (w : LocalTime) (c : Option Mark) (x : Option Slip) :
    (s.countBad r n w c x).sku = s.sku := by unfold State.countBad; (repeat' split) <;> simp
@[simp] theorem State.countBad_lnu (r : Mark) (n : Nat) (w : LocalTime) (c : Option Mark) (x : Option Slip) :
    (s.countBad r n w c x).lnu = s.lnu := by unfold State.countBad; (repeat' split) <;> simp
@[simp] theorem State.countBad_ims (r : Mark) (n : Nat) (w : LocalTime) (c : Option Mark) (x : Option Slip) :
    (s.countBad r n w c x).ims = s.ims := by unfold State.countBad; (repeat' split) <;> simp
@[simp] theorem State.countBad_pending (r : Mark) (n : Nat) (w : LocalTime) (c : Option Mark) (x : Option Slip) :
    (s.countBad r n w c x).pending = s.pending := by unfold State.countBad; (repeat' split) <;> simp

@[simp] theorem State.lockedMark_sli (m r : Mark) (n : Nat) (c : Option Mark) (x : Option Slip) :
    (s.lockedMark m r n c x).sli = s.sli := by
  unfold State.lockedMark
  dsimp only
  (repeat' split) <;> simp
@[simp] theorem State.lockedMark_tku (m r : Mark) (n : Nat) (c : Option Mark) (x : Option Slip) :
    (s.lockedMark m r n c x).tku = s.tku := by
  unfold State.lockedMark
  dsimp only
  (repeat' split) <;> simp
@[simp] theorem State.lockedMark_sku (m r : Mark) (n : Nat) (c : Option Mark) (x : Option Slip) :
    (s.lockedMark m r n c x).sku = s.sku := by
  unfold State.lockedMark
  dsimp only
  (repeat' split) <;> simp
@[simp] theorem State.lockedMark_lnu (m r : Mark) (n : Nat) (c : Option Mark) (x : Option Slip) :
    (s.lockedMark m r n c x).lnu = s.lnu := by
  unfold State.lockedMark
  dsimp only
  (repeat' split) <;> simp
@[simp] theorem State.lockedMark_ims (m r : Mark) (n : Nat) (c : Option Mark) (x : Option Slip) :
    (s.lockedMark m r n c x).ims = s.ims := by
  unfold State.lockedMark
  dsimp only
  (repeat' split) <;> simp
@[simp] theorem State.lockedMark_pending (m r : Mark) (n : Nat) (c : Option Mark) (x : Option Slip) :
    (s.lockedMark m r n c x).pending = s.pending := by
  unfold State.lockedMark
  dsimp only
  (repeat' split) <;> simp

@[simp] theorem State.takeMark_sli (m : Mark) :
    (s.takeMark m).sli = s.sli := by unfold State.takeMark; (repeat' split) <;> simp
@[simp] theorem State.takeMark_tku (m : Mark) :
    (s.takeMark m).tku = s.tku := by unfold State.takeMark; (repeat' split) <;> simp
@[simp] theorem State.takeMark_sku (m : Mark) :
    (s.takeMark m).sku = s.sku := by unfold State.takeMark; (repeat' split) <;> simp
@[simp] theorem State.takeMark_lnu (m : Mark) :
    (s.takeMark m).lnu = s.lnu := by unfold State.takeMark; (repeat' split) <;> simp
@[simp] theorem State.takeMark_ims (m : Mark) :
    (s.takeMark m).ims = s.ims := by unfold State.takeMark; (repeat' split) <;> simp
@[simp] theorem State.takeMark_pending (m : Mark) :
    (s.takeMark m).pending = s.pending := by unfold State.takeMark; (repeat' split) <;> simp

@[simp] theorem State.takeFailedMark_sli :
    (s.takeFailedMark).sli = s.sli := by unfold State.takeFailedMark; (repeat' split) <;> simp
@[simp] theorem State.takeFailedMark_fxe :
    (s.takeFailedMark).fxe = s.fxe := by unfold State.takeFailedMark; (repeat' split) <;> simp
@[simp] theorem State.takeFailedMark_pbu :
    (s.takeFailedMark).pbu = s.pbu := by unfold State.takeFailedMark; (repeat' split) <;> simp
@[simp] theorem State.takeFailedMark_tku :
    (s.takeFailedMark).tku = s.tku := by unfold State.takeFailedMark; (repeat' split) <;> simp
@[simp] theorem State.takeFailedMark_sku :
    (s.takeFailedMark).sku = s.sku := by unfold State.takeFailedMark; (repeat' split) <;> simp
@[simp] theorem State.takeFailedMark_lnu :
    (s.takeFailedMark).lnu = s.lnu := by unfold State.takeFailedMark; (repeat' split) <;> simp
@[simp] theorem State.takeFailedMark_ims :
    (s.takeFailedMark).ims = s.ims := by unfold State.takeFailedMark; (repeat' split) <;> simp
@[simp] theorem State.takeFailedMark_pending :
    (s.takeFailedMark).pending = s.pending := by unfold State.takeFailedMark; (repeat' split) <;> simp

@[simp] theorem State.completeMark_sli (b : List Byte) : (s.completeMark b).sli = s.sli := by
  unfold State.completeMark
  dsimp only
  split <;> simp
@[simp] theorem State.completeMark_tku (b : List Byte) : (s.completeMark b).tku = s.tku := by
  unfold State.completeMark
  dsimp only
  split <;> simp
@[simp] theorem State.completeMark_sku (b : List Byte) : (s.completeMark b).sku = s.sku := by
  unfold State.completeMark
  dsimp only
  split <;> simp
@[simp] theorem State.completeMark_lnu (b : List Byte) : (s.completeMark b).lnu = s.lnu := by
  unfold State.completeMark
  dsimp only
  split <;> simp
@[simp] theorem State.completeMark_ims (b : List Byte) : (s.completeMark b).ims = s.ims := by
  unfold State.completeMark
  dsimp only
  split <;> simp
@[simp] theorem State.completeMark_pending (b : List Byte) : (s.completeMark b).pending = s.pending := by
  unfold State.completeMark
  dsimp only
  split <;> simp

@[simp] theorem State.abandonMark_sli : (s.abandonMark).sli = s.sli := by simp [State.abandonMark]
@[simp] theorem State.abandonMark_fxe : (s.abandonMark).fxe = s.fxe := by simp [State.abandonMark]
@[simp] theorem State.abandonMark_pbu : (s.abandonMark).pbu = s.pbu := by simp [State.abandonMark]
@[simp] theorem State.abandonMark_tku : (s.abandonMark).tku = s.tku := by simp [State.abandonMark]
@[simp] theorem State.abandonMark_sku : (s.abandonMark).sku = s.sku := by simp [State.abandonMark]
@[simp] theorem State.abandonMark_lnu : (s.abandonMark).lnu = s.lnu := by simp [State.abandonMark]
@[simp] theorem State.abandonMark_ims : (s.abandonMark).ims = s.ims := by simp [State.abandonMark]
@[simp] theorem State.abandonMark_pending : (s.abandonMark).pending = s.pending := by simp [State.abandonMark]

@[simp] theorem State.checkMarkGap_sli :
    (s.checkMarkGap).sli = s.sli := by unfold State.checkMarkGap; (repeat' split) <;> simp
@[simp] theorem State.checkMarkGap_fxe :
    (s.checkMarkGap).fxe = s.fxe := by unfold State.checkMarkGap; (repeat' split) <;> simp
@[simp] theorem State.checkMarkGap_pbu :
    (s.checkMarkGap).pbu = s.pbu := by unfold State.checkMarkGap; (repeat' split) <;> simp
@[simp] theorem State.checkMarkGap_tku :
    (s.checkMarkGap).tku = s.tku := by unfold State.checkMarkGap; (repeat' split) <;> simp
@[simp] theorem State.checkMarkGap_sku :
    (s.checkMarkGap).sku = s.sku := by unfold State.checkMarkGap; (repeat' split) <;> simp
@[simp] theorem State.checkMarkGap_lnu :
    (s.checkMarkGap).lnu = s.lnu := by unfold State.checkMarkGap; (repeat' split) <;> simp
@[simp] theorem State.checkMarkGap_ims :
    (s.checkMarkGap).ims = s.ims := by unfold State.checkMarkGap; (repeat' split) <;> simp
@[simp] theorem State.checkMarkGap_pending :
    (s.checkMarkGap).pending = s.pending := by unfold State.checkMarkGap; (repeat' split) <;> simp

@[simp] theorem State.takeSyncByte_sli (b : Byte) :
    (s.takeSyncByte b).sli = s.sli := by unfold State.takeSyncByte; (repeat' split) <;> simp
@[simp] theorem State.takeSyncByte_tku (b : Byte) :
    (s.takeSyncByte b).tku = s.tku := by unfold State.takeSyncByte; (repeat' split) <;> simp
@[simp] theorem State.takeSyncByte_sku (b : Byte) :
    (s.takeSyncByte b).sku = s.sku := by unfold State.takeSyncByte; (repeat' split) <;> simp
@[simp] theorem State.takeSyncByte_lnu (b : Byte) :
    (s.takeSyncByte b).lnu = s.lnu := by unfold State.takeSyncByte; (repeat' split) <;> simp
@[simp] theorem State.takeSyncByte_ims (b : Byte) :
    (s.takeSyncByte b).ims = s.ims := by unfold State.takeSyncByte; (repeat' split) <;> simp
@[simp] theorem State.takeSyncByte_pending (b : Byte) :
    (s.takeSyncByte b).pending = s.pending := by unfold State.takeSyncByte; (repeat' split) <;> simp

@[simp] theorem State.syncByte_sli (b : Byte) : (s.syncByte b).sli = s.sli := by simp [State.syncByte]
@[simp] theorem State.syncByte_tku (b : Byte) : (s.syncByte b).tku = s.tku := by simp [State.syncByte]
@[simp] theorem State.syncByte_sku (b : Byte) : (s.syncByte b).sku = s.sku := by simp [State.syncByte]
@[simp] theorem State.syncByte_lnu (b : Byte) : (s.syncByte b).lnu = s.lnu := by simp [State.syncByte]
@[simp] theorem State.syncByte_ims (b : Byte) : (s.syncByte b).ims = s.ims := by simp [State.syncByte]
@[simp] theorem State.syncByte_pending (b : Byte) : (s.syncByte b).pending = s.pending := by simp [State.syncByte]

@[simp] theorem State.evaluateDefined_sli (p : Pass) (i : Fin 128) (f : Fixture) :
    (s.evaluateDefined p i f).sli = s.sli := by
  unfold State.evaluateDefined
  dsimp only
  split <;> simp
@[simp] theorem State.evaluateDefined_scu (p : Pass) (i : Fin 128) (f : Fixture) :
    (s.evaluateDefined p i f).scu = s.scu := by
  unfold State.evaluateDefined
  dsimp only
  split <;> simp
@[simp] theorem State.evaluateDefined_pbu (p : Pass) (i : Fin 128) (f : Fixture) :
    (s.evaluateDefined p i f).pbu = s.pbu := by
  unfold State.evaluateDefined
  dsimp only
  split <;> simp
@[simp] theorem State.evaluateDefined_sku (p : Pass) (i : Fin 128) (f : Fixture) :
    (s.evaluateDefined p i f).sku = s.sku := by
  unfold State.evaluateDefined
  dsimp only
  split <;> simp
@[simp] theorem State.evaluateDefined_ims (p : Pass) (i : Fin 128) (f : Fixture) :
    (s.evaluateDefined p i f).ims = s.ims := by
  unfold State.evaluateDefined
  dsimp only
  split <;> simp
@[simp] theorem State.evaluateDefined_pending (p : Pass) (i : Fin 128) (f : Fixture) :
    (s.evaluateDefined p i f).pending = s.pending := by
  unfold State.evaluateDefined
  dsimp only
  split <;> simp

@[simp] theorem State.evaluate_sli (p : Pass) (i : Fin 128) :
    (s.evaluate p i).sli = s.sli := by unfold State.evaluate; (repeat' split) <;> simp
@[simp] theorem State.evaluate_scu (p : Pass) (i : Fin 128) :
    (s.evaluate p i).scu = s.scu := by unfold State.evaluate; (repeat' split) <;> simp
@[simp] theorem State.evaluate_pbu (p : Pass) (i : Fin 128) :
    (s.evaluate p i).pbu = s.pbu := by unfold State.evaluate; (repeat' split) <;> simp
@[simp] theorem State.evaluate_sku (p : Pass) (i : Fin 128) :
    (s.evaluate p i).sku = s.sku := by unfold State.evaluate; (repeat' split) <;> simp
@[simp] theorem State.evaluate_ims (p : Pass) (i : Fin 128) :
    (s.evaluate p i).ims = s.ims := by unfold State.evaluate; (repeat' split) <;> simp
@[simp] theorem State.evaluate_pending (p : Pass) (i : Fin 128) :
    (s.evaluate p i).pending = s.pending := by unfold State.evaluate; (repeat' split) <;> simp

@[simp] theorem State.evaluateNext_sli (p : Pass) : (s.evaluateNext p).sli = s.sli := by
  unfold State.evaluateNext State.meetSampling
  dsimp only
  (repeat' split) <;> simp
@[simp] theorem State.evaluateNext_scu (p : Pass) : (s.evaluateNext p).scu = s.scu := by
  unfold State.evaluateNext State.meetSampling
  dsimp only
  (repeat' split) <;> simp
@[simp] theorem State.evaluateNext_pbu (p : Pass) : (s.evaluateNext p).pbu = s.pbu := by
  unfold State.evaluateNext State.meetSampling
  dsimp only
  (repeat' split) <;> simp
@[simp] theorem State.evaluateNext_ims (p : Pass) : (s.evaluateNext p).ims = s.ims := by
  unfold State.evaluateNext State.meetSampling
  dsimp only
  (repeat' split) <;> simp
@[simp] theorem State.evaluateNext_pending (p : Pass) : (s.evaluateNext p).pending = s.pending := by
  unfold State.evaluateNext State.meetSampling
  dsimp only
  (repeat' split) <;> simp

@[simp] theorem State.completePass_sli : (s.completePass).sli = s.sli := by
  unfold State.completePass
  (repeat' split) <;> simp
@[simp] theorem State.completePass_scu : (s.completePass).scu = s.scu := by
  unfold State.completePass
  (repeat' split) <;> simp
@[simp] theorem State.completePass_pbu : (s.completePass).pbu = s.pbu := by
  unfold State.completePass
  (repeat' split) <;> simp
@[simp] theorem State.completePass_ims : (s.completePass).ims = s.ims := by
  unfold State.completePass
  (repeat' split) <;> simp
@[simp] theorem State.completePass_pending : (s.completePass).pending = s.pending := by
  unfold State.completePass
  (repeat' split) <;> simp

@[simp] theorem State.evaluateRest_sli (n : Nat) : (s.evaluateRest n).sli = s.sli := by
  induction n generalizing s with
  | zero => rfl
  | succ n ih =>
    unfold State.evaluateRest
    (repeat' split) <;> simp [ih]
@[simp] theorem State.evaluateRest_scu (n : Nat) : (s.evaluateRest n).scu = s.scu := by
  induction n generalizing s with
  | zero => rfl
  | succ n ih =>
    unfold State.evaluateRest
    (repeat' split) <;> simp [ih]
@[simp] theorem State.evaluateRest_pbu (n : Nat) : (s.evaluateRest n).pbu = s.pbu := by
  induction n generalizing s with
  | zero => rfl
  | succ n ih =>
    unfold State.evaluateRest
    (repeat' split) <;> simp [ih]
@[simp] theorem State.evaluateRest_ims (n : Nat) : (s.evaluateRest n).ims = s.ims := by
  induction n generalizing s with
  | zero => rfl
  | succ n ih =>
    unfold State.evaluateRest
    (repeat' split) <;> simp [ih]
@[simp] theorem State.evaluateRest_pending (n : Nat) : (s.evaluateRest n).pending = s.pending := by
  induction n generalizing s with
  | zero => rfl
  | succ n ih =>
    unfold State.evaluateRest
    (repeat' split) <;> simp [ih]

@[simp] theorem State.finishPass_sli : (s.finishPass).sli = s.sli := by simp [State.finishPass]
@[simp] theorem State.finishPass_scu : (s.finishPass).scu = s.scu := by simp [State.finishPass]
@[simp] theorem State.finishPass_pbu : (s.finishPass).pbu = s.pbu := by simp [State.finishPass]
@[simp] theorem State.finishPass_ims : (s.finishPass).ims = s.ims := by simp [State.finishPass]
@[simp] theorem State.finishPass_pending : (s.finishPass).pending = s.pending := by simp [State.finishPass]

@[simp] theorem State.advanceShow_sli (n : Nat) : (s.advanceShow n).sli = s.sli := by
  unfold State.advanceShow
  dsimp only
  (repeat' split) <;> simp
@[simp] theorem State.advanceShow_fxe (n : Nat) : (s.advanceShow n).fxe = s.fxe := by
  unfold State.advanceShow
  dsimp only
  (repeat' split) <;> simp
@[simp] theorem State.advanceShow_pbu (n : Nat) : (s.advanceShow n).pbu = s.pbu := by
  unfold State.advanceShow
  dsimp only
  (repeat' split) <;> simp
@[simp] theorem State.advanceShow_tku (n : Nat) : (s.advanceShow n).tku = s.tku := by
  unfold State.advanceShow
  dsimp only
  (repeat' split) <;> simp
@[simp] theorem State.advanceShow_sku (n : Nat) : (s.advanceShow n).sku = s.sku := by
  unfold State.advanceShow
  dsimp only
  (repeat' split) <;> simp
@[simp] theorem State.advanceShow_lnu (n : Nat) : (s.advanceShow n).lnu = s.lnu := by
  unfold State.advanceShow
  dsimp only
  (repeat' split) <;> simp
@[simp] theorem State.advanceShow_ims (n : Nat) : (s.advanceShow n).ims = s.ims := by
  unfold State.advanceShow
  dsimp only
  (repeat' split) <;> simp
@[simp] theorem State.advanceShow_pending (n : Nat) : (s.advanceShow n).pending = s.pending := by
  unfold State.advanceShow
  dsimp only
  (repeat' split) <;> simp

@[simp] theorem State.expire_sli (t : LocalTime) : (s.expire t).sli = s.sli := by simp [State.expire]
@[simp] theorem State.expire_sku (t : LocalTime) : (s.expire t).sku = s.sku := by simp [State.expire]
@[simp] theorem State.expire_lnu (t : LocalTime) : (s.expire t).lnu = s.lnu := by simp [State.expire]
@[simp] theorem State.expire_ims (t : LocalTime) : (s.expire t).ims = s.ims := by simp [State.expire]
@[simp] theorem State.expire_pending (t : LocalTime) : (s.expire t).pending = s.pending := by simp [State.expire]

@[simp] theorem State.startPass_sli (t : LocalTime) (x : Option Sampling) :
    (s.startPass t x).sli = s.sli := by simp [State.startPass]
@[simp] theorem State.startPass_rqd (t : LocalTime) (x : Option Sampling) :
    (s.startPass t x).rqd = s.rqd := by simp [State.startPass]
@[simp] theorem State.startPass_scu (t : LocalTime) (x : Option Sampling) :
    (s.startPass t x).scu = s.scu := by simp [State.startPass]
@[simp] theorem State.startPass_pbu (t : LocalTime) (x : Option Sampling) :
    (s.startPass t x).pbu = s.pbu := by simp [State.startPass]
@[simp] theorem State.startPass_tku (t : LocalTime) (x : Option Sampling) :
    (s.startPass t x).tku = s.tku := by simp [State.startPass]
@[simp] theorem State.startPass_sku (t : LocalTime) (x : Option Sampling) :
    (s.startPass t x).sku = s.sku := by simp [State.startPass]
@[simp] theorem State.startPass_lnu (t : LocalTime) (x : Option Sampling) :
    (s.startPass t x).lnu = s.lnu := by simp [State.startPass]
@[simp] theorem State.startPass_ims (t : LocalTime) (x : Option Sampling) :
    (s.startPass t x).ims = s.ims := by simp [State.startPass]
@[simp] theorem State.startPass_pending (t : LocalTime) (x : Option Sampling) :
    (s.startPass t x).pending = s.pending := by simp [State.startPass]

@[simp] theorem State.expireWith_sli (t : LocalTime) (r : Readings) (n : Nat) :
    (s.expireWith t r n).sli = s.sli := by cases n <;> simp [State.expireWith]
@[simp] theorem State.expireWith_lnu (t : LocalTime) (r : Readings) (n : Nat) :
    (s.expireWith t r n).lnu = s.lnu := by cases n <;> simp [State.expireWith]
@[simp] theorem State.expireWith_ims (t : LocalTime) (r : Readings) (n : Nat) :
    (s.expireWith t r n).ims = s.ims := by cases n <;> simp [State.expireWith]
@[simp] theorem State.expireWith_pending (t : LocalTime) (r : Readings) (n : Nat) :
    (s.expireWith t r n).pending = s.pending := by cases n <;> simp [State.expireWith]

@[simp] theorem State.completeEmptyPass_sli : (s.completeEmptyPass).sli = s.sli := by
  unfold State.completeEmptyPass
  split <;> simp
@[simp] theorem State.completeEmptyPass_scu : (s.completeEmptyPass).scu = s.scu := by
  unfold State.completeEmptyPass
  split <;> simp
@[simp] theorem State.completeEmptyPass_pbu : (s.completeEmptyPass).pbu = s.pbu := by
  unfold State.completeEmptyPass
  split <;> simp
@[simp] theorem State.completeEmptyPass_ims : (s.completeEmptyPass).ims = s.ims := by
  unfold State.completeEmptyPass
  split <;> simp
@[simp] theorem State.completeEmptyPass_pending : (s.completeEmptyPass).pending = s.pending := by
  unfold State.completeEmptyPass
  split <;> simp

@[simp] theorem State.acceptFrame_fxe (c : List Byte) : (s.acceptFrame c).fxe = s.fxe := by
  unfold State.acceptFrame
  dsimp only
  (repeat' split) <;> simp
@[simp] theorem State.acceptFrame_scu (c : List Byte) : (s.acceptFrame c).scu = s.scu := by
  unfold State.acceptFrame
  dsimp only
  (repeat' split) <;> simp
@[simp] theorem State.acceptFrame_pbu (c : List Byte) : (s.acceptFrame c).pbu = s.pbu := by
  unfold State.acceptFrame
  dsimp only
  (repeat' split) <;> simp
@[simp] theorem State.acceptFrame_tku (c : List Byte) : (s.acceptFrame c).tku = s.tku := by
  unfold State.acceptFrame
  dsimp only
  (repeat' split) <;> simp
@[simp] theorem State.acceptFrame_sku (c : List Byte) : (s.acceptFrame c).sku = s.sku := by
  unfold State.acceptFrame
  dsimp only
  (repeat' split) <;> simp
@[simp] theorem State.acceptFrame_lnu (c : List Byte) : (s.acceptFrame c).lnu = s.lnu := by
  unfold State.acceptFrame
  dsimp only
  (repeat' split) <;> simp
@[simp] theorem State.acceptFrame_ims (c : List Byte) : (s.acceptFrame c).ims = s.ims := by
  unfold State.acceptFrame
  dsimp only
  (repeat' split) <;> simp
@[simp] theorem State.acceptFrame_pending (c : List Byte) : (s.acceptFrame c).pending = s.pending := by
  unfold State.acceptFrame
  dsimp only
  (repeat' split) <;> simp

@[simp] theorem State.judgeFrame_fxe (c : List Byte) (a b : Bool) :
    (s.judgeFrame c a b).fxe = s.fxe := by unfold State.judgeFrame; (repeat' split) <;> simp
@[simp] theorem State.judgeFrame_scu (c : List Byte) (a b : Bool) :
    (s.judgeFrame c a b).scu = s.scu := by unfold State.judgeFrame; (repeat' split) <;> simp
@[simp] theorem State.judgeFrame_pbu (c : List Byte) (a b : Bool) :
    (s.judgeFrame c a b).pbu = s.pbu := by unfold State.judgeFrame; (repeat' split) <;> simp
@[simp] theorem State.judgeFrame_tku (c : List Byte) (a b : Bool) :
    (s.judgeFrame c a b).tku = s.tku := by unfold State.judgeFrame; (repeat' split) <;> simp
@[simp] theorem State.judgeFrame_sku (c : List Byte) (a b : Bool) :
    (s.judgeFrame c a b).sku = s.sku := by unfold State.judgeFrame; (repeat' split) <;> simp
@[simp] theorem State.judgeFrame_lnu (c : List Byte) (a b : Bool) :
    (s.judgeFrame c a b).lnu = s.lnu := by unfold State.judgeFrame; (repeat' split) <;> simp
@[simp] theorem State.judgeFrame_ims (c : List Byte) (a b : Bool) :
    (s.judgeFrame c a b).ims = s.ims := by unfold State.judgeFrame; (repeat' split) <;> simp
@[simp] theorem State.judgeFrame_pending (c : List Byte) (a b : Bool) :
    (s.judgeFrame c a b).pending = s.pending := by unfold State.judgeFrame; (repeat' split) <;> simp

@[simp] theorem State.linkByte_fxe (b : Byte) :
    (s.linkByte b).fxe = s.fxe := by unfold State.linkByte; (repeat' split) <;> simp
@[simp] theorem State.linkByte_scu (b : Byte) :
    (s.linkByte b).scu = s.scu := by unfold State.linkByte; (repeat' split) <;> simp
@[simp] theorem State.linkByte_pbu (b : Byte) :
    (s.linkByte b).pbu = s.pbu := by unfold State.linkByte; (repeat' split) <;> simp
@[simp] theorem State.linkByte_tku (b : Byte) :
    (s.linkByte b).tku = s.tku := by unfold State.linkByte; (repeat' split) <;> simp
@[simp] theorem State.linkByte_sku (b : Byte) :
    (s.linkByte b).sku = s.sku := by unfold State.linkByte; (repeat' split) <;> simp
@[simp] theorem State.linkByte_lnu (b : Byte) :
    (s.linkByte b).lnu = s.lnu := by unfold State.linkByte; (repeat' split) <;> simp
@[simp] theorem State.linkByte_ims (b : Byte) :
    (s.linkByte b).ims = s.ims := by unfold State.linkByte; (repeat' split) <;> simp
@[simp] theorem State.linkByte_pending (b : Byte) :
    (s.linkByte b).pending = s.pending := by unfold State.linkByte; (repeat' split) <;> simp

@[simp] theorem State.turnAway_fxe (r : LinkRequest) :
    (s.turnAway r).fxe = s.fxe := by unfold State.turnAway; (repeat' split) <;> simp
@[simp] theorem State.turnAway_scu (r : LinkRequest) :
    (s.turnAway r).scu = s.scu := by unfold State.turnAway; (repeat' split) <;> simp
@[simp] theorem State.turnAway_pbu (r : LinkRequest) :
    (s.turnAway r).pbu = s.pbu := by unfold State.turnAway; (repeat' split) <;> simp
@[simp] theorem State.turnAway_tku (r : LinkRequest) :
    (s.turnAway r).tku = s.tku := by unfold State.turnAway; (repeat' split) <;> simp
@[simp] theorem State.turnAway_sku (r : LinkRequest) :
    (s.turnAway r).sku = s.sku := by unfold State.turnAway; (repeat' split) <;> simp
@[simp] theorem State.turnAway_lnu (r : LinkRequest) :
    (s.turnAway r).lnu = s.lnu := by unfold State.turnAway; (repeat' split) <;> simp
@[simp] theorem State.turnAway_ims (r : LinkRequest) :
    (s.turnAway r).ims = s.ims := by unfold State.turnAway; (repeat' split) <;> simp
@[simp] theorem State.turnAway_pending (r : LinkRequest) :
    (s.turnAway r).pending = s.pending := by unfold State.turnAway; (repeat' split) <;> simp

@[simp] theorem State.emptyLanes_fxe : (s.emptyLanes).fxe = s.fxe := by
  unfold State.emptyLanes
  exact foldl_keeps (fun x : State => x.fxe) _ (fun s r => by simp) _ _
@[simp] theorem State.emptyLanes_scu : (s.emptyLanes).scu = s.scu := by
  unfold State.emptyLanes
  exact foldl_keeps (fun x : State => x.scu) _ (fun s r => by simp) _ _
@[simp] theorem State.emptyLanes_pbu : (s.emptyLanes).pbu = s.pbu := by
  unfold State.emptyLanes
  exact foldl_keeps (fun x : State => x.pbu) _ (fun s r => by simp) _ _
@[simp] theorem State.emptyLanes_tku : (s.emptyLanes).tku = s.tku := by
  unfold State.emptyLanes
  exact foldl_keeps (fun x : State => x.tku) _ (fun s r => by simp) _ _
@[simp] theorem State.emptyLanes_sku : (s.emptyLanes).sku = s.sku := by
  unfold State.emptyLanes
  exact foldl_keeps (fun x : State => x.sku) _ (fun s r => by simp) _ _
@[simp] theorem State.emptyLanes_lnu : (s.emptyLanes).lnu = s.lnu := by
  unfold State.emptyLanes
  exact foldl_keeps (fun x : State => x.lnu) _ (fun s r => by simp) _ _
@[simp] theorem State.emptyLanes_ims : (s.emptyLanes).ims = s.ims := by
  unfold State.emptyLanes
  exact foldl_keeps (fun x : State => x.ims) _ (fun s r => by simp) _ _
@[simp] theorem State.emptyLanes_pending : (s.emptyLanes).pending = s.pending := by
  unfold State.emptyLanes
  exact foldl_keeps (fun x : State => x.pending) _ (fun s r => by simp) _ _

@[simp] theorem State.changeSelected_sli (q : Request) (f : Fixture → Fixture) : (s.changeSelected q f).1.sli = s.sli := by simp [State.changeSelected]
@[simp] theorem State.changeSelected_rqd (q : Request) (f : Fixture → Fixture) : (s.changeSelected q f).1.rqd = s.rqd := by simp [State.changeSelected]
@[simp] theorem State.changeSelected_scu (q : Request) (f : Fixture → Fixture) : (s.changeSelected q f).1.scu = s.scu := by simp [State.changeSelected]
@[simp] theorem State.changeSelected_pbu (q : Request) (f : Fixture → Fixture) : (s.changeSelected q f).1.pbu = s.pbu := by simp [State.changeSelected]
@[simp] theorem State.changeSelected_tku (q : Request) (f : Fixture → Fixture) : (s.changeSelected q f).1.tku = s.tku := by simp [State.changeSelected]
@[simp] theorem State.changeSelected_sku (q : Request) (f : Fixture → Fixture) : (s.changeSelected q f).1.sku = s.sku := by simp [State.changeSelected]
@[simp] theorem State.changeSelected_lnu (q : Request) (f : Fixture → Fixture) : (s.changeSelected q f).1.lnu = s.lnu := by simp [State.changeSelected]
@[simp] theorem State.changeSelected_ims (q : Request) (f : Fixture → Fixture) : (s.changeSelected q f).1.ims = s.ims := by simp [State.changeSelected]
@[simp] theorem State.changeSelected_pending (q : Request) (f : Fixture → Fixture) : (s.changeSelected q f).1.pending = s.pending := by simp [State.changeSelected]

end Sys2Proof.Machine
end

