-- ==== Sys2Proof/Laws/Service.lean ====
section
/-! SUPPORT. What the service of a request can do: one lemma per outcome. -/

namespace Sys2Proof.Machine

/-- A request in progress stands before the RQD as it is. -/
theorem State.present_of_inProgress {s : State} {r : LinkRequest} (h : s.rqd.inProgress = some r) : s.present r = s := by
  simp [State.present, h]

/-- A request in progress is done by its body, and completes with the answer of the body. -/
theorem State.serve_of_inProgress {s : State} {kind : Byte} {q : Request} {body : State → State × Answer}
    (h : s.rqd.inProgress = some { kind := kind, request := q }) :
    s.serve kind q body = (body s).1.complete { kind := kind, request := q } (body s).2 := by
  simp [State.serve, State.present_of_inProgress h, h]

/-- Nothing begins while a request is in progress. -/
theorem State.beginNext_of_inProgress {s : State} {r : LinkRequest} (h : s.rqd.inProgress = some r) : s.beginNext = s := by
  unfold State.beginNext
  rw [h]

/-- An admission leaves the request in progress alone. -/
theorem State.takeIn_inProgress {s : State} {r0 : LinkRequest} (r : LinkRequest) (h : s.rqd.inProgress = some r0) :
    (s.takeIn r).rqd.inProgress = some r0 := by
  have hj : (s.joinLane r).rqd.inProgress = some r0 := by
    unfold State.joinLane
    split <;> exact h
  unfold State.takeIn
  repeat' split
  · rw [State.beginNext_of_inProgress hj]
    exact hj
  · simp only [State.raise_rqd, State.count_rqd]
    unfold Rqd.raise
    split <;> exact h
  · exact h
  · rw [State.beginNext_of_inProgress hj]
    exact hj
  · exact h

/-- While another request is in progress, a request is only admitted: it waits in its lane or is turned away. -/
theorem State.serve_of_other {s : State} {r0 : LinkRequest} {kind : Byte} {q : Request} {body : State → State × Answer}
    (h : s.rqd.inProgress = some r0) (hne : r0 ≠ { kind := kind, request := q }) :
    s.serve kind q body = s.takeIn { kind := kind, request := q } := by
  have hp : s.present { kind := kind, request := q } = s.takeIn { kind := kind, request := q } := by
    simp [State.present, h, hne]
  simp [State.serve, hp, State.takeIn_inProgress _ h, hne]

/-- The first failing check refuses a change, which then changes nothing. -/
theorem changeBody_refused {checks : State → List (Bool × Status)} {effect : State → State × Answer} {s : State}
    {st : Status} (h : firstFailing (checks s) = some st) : changeBody checks effect s = (s, .refuse st) := by
  simp [changeBody, h]

/-- A change whose checks all hold takes its effect. -/
theorem changeBody_accepted {checks : State → List (Bool × Status)} {effect : State → State × Answer} {s : State}
    (h : firstFailing (checks s) = none) : changeBody checks effect s = effect s := by
  simp [changeBody, h]

/-- A check that holds is passed. -/
@[simp] theorem firstFailing_true (st : Status) (rest : List (Bool × Status)) :
    firstFailing ((true, st) :: rest) = firstFailing rest := rfl

/-- A check that fails gives its status. -/
@[simp] theorem firstFailing_false (st : Status) (rest : List (Bool × Status)) :
    firstFailing ((false, st) :: rest) = some st := rfl

/-- No check fails of none. -/
@[simp] theorem firstFailing_nil : firstFailing [] = none := rfl

end Sys2Proof.Machine
end

