-- ==== Sys2Proof/Laws/Ops.lean ====
section
/-! SUPPORT. What the shared operations do, said once for each: message fields, slot images, changes of fixtures, selectors,
notices, lanes and replies. -/

namespace Sys2Proof.Machine

/-! ### Message fields (R186) -/

/-- A byte field reads as its number modulo 256. -/
theorem byteOf_toNat (n : Nat) : (byteOf n).toNat = n % 256 := by simp [byteOf]

/-- A 2-byte field is read as it was written. -/
theorem u16_be16 (n : Nat) (r : List Byte) : u16 (be16 n ++ r) 0 = n % 65536 := by
  simp [u16, u8, be16, byteOf]
  omega

/-- A 4-byte field is read as it was written. -/
theorem u32_be32 (n : Nat) (r : List Byte) : u32 (be32 n ++ r) 0 = n % 4294967296 := by
  simp [u32, u16, u8, be32, byteOf]
  omega

/-- A signed 2-byte field is read as it was written, within its range. -/
theorem i16_be16i (v : Int) (r : List Byte) (lo : -32768 ≤ v) (hi : v < 32768) : i16 (be16i v ++ r) 0 = v := by
  simp only [i16, be16i, u16_be16]
  split <;> omega

/-- A signed 4-byte field is read as it was written, within its range. -/
theorem i32_be32i (v : Int) (r : List Byte) (lo : -2147483648 ≤ v) (hi : v < 2147483648) : i32 (be32i v ++ r) 0 = v := by
  simp only [i32, be32i, u32_be32]
  split <;> omega

/-- A field at an offset is the field at the front of the rest. -/
theorem u8_drop (p : List Byte) (i j : Nat) : u8 (p.drop i) j = u8 p (i + j) := by
  simp [u8, List.getD_eq_getElem?_getD, List.getElem?_drop]

theorem u16_drop (p : List Byte) (i j : Nat) : u16 (p.drop i) j = u16 p (i + j) := by
  simp [u16, u8_drop, Nat.add_assoc]

theorem u32_drop (p : List Byte) (i j : Nat) : u32 (p.drop i) j = u32 p (i + j) := by
  simp [u32, u16_drop, Nat.add_assoc]

theorem i16_drop (p : List Byte) (i j : Nat) : i16 (p.drop i) j = i16 p (i + j) := by simp [i16, u16_drop]

theorem i32_drop (p : List Byte) (i j : Nat) : i32 (p.drop i) j = i32 p (i + j) := by simp [i32, u32_drop]

theorem be16_length (n : Nat) : (be16 n).length = 2 := rfl

theorem be32_length (n : Nat) : (be32 n).length = 4 := rfl

/-- A map of n bytes is read as it was written. -/
theorem mapField_mapBytes (n m : Nat) (r : List Byte) : mapField (mapBytes n m ++ r) 0 n = m % 256 ^ n := by
  have shift : ∀ (n i : Nat) (b : Byte) (p : List Byte), mapField (b :: p) (i + 1) n = mapField p i n := by
    intro n
    induction n with
    | zero => intros; rfl
    | succ n ih => intro i b p; simp [mapField, ih, u8]
  induction n generalizing m with
  | zero => simp [mapField, Nat.mod_one]
  | succ n ih =>
    have hb : u8 (mapBytes (n + 1) m ++ r) 0 = m % 256 := by simp [mapBytes, u8, byteOf]
    have hs : mapField (mapBytes (n + 1) m ++ r) 1 n = m / 256 % 256 ^ n := by
      rw [mapBytes, List.cons_append, shift, ih]
    rw [mapField, hb, hs, Nat.pow_succ, Nat.mul_comm (256 ^ n) 256, Nat.mod_mul]

/-! ### Slot images (R164) -/

/-- Values written into consecutive slots: each lands at its index, and every other slot is kept. -/
theorem writeSlots_getElem (img : Vector Byte 512) (i : Nat) (values : List Byte) (k : Nat) (h : k < 512) :
    (writeSlots img i values)[k] = if i ≤ k ∧ k < i + values.length then values.getD (k - i) 0 else img[k] := by
  induction values generalizing img i with
  | nil => simp [writeSlots]
  | cons b rest ih =>
    rw [writeSlots, ih]
    by_cases hk : k = i
    · subst hk
      simp
    · have hne : i ≠ k := fun e => hk e.symm
      by_cases hin : i + 1 ≤ k ∧ k < i + 1 + rest.length
      · have h1 : i ≤ k ∧ k < i + (b :: rest).length := by simp only [List.length_cons]; omega
        have h2 : k - i = (k - (i + 1)) + 1 := by omega
        rw [if_pos hin, if_pos h1, h2]
        simp
      · have h1 : ¬(i ≤ k ∧ k < i + (b :: rest).length) := by simp only [List.length_cons]; omega
        rw [if_neg hin, if_neg h1, Vector.getElem_setIfInBounds]
        simp [hne]

/-- As many values are read as asked for. -/
theorem readSlots_length (img : Vector Byte 512) (i n : Nat) : (readSlots img i n).length = n := by
  induction n generalizing i with
  | zero => rfl
  | succ n ih => simp [readSlots, ih]

/-- The values read are those of the slots. -/
theorem readSlots_getD (img : Vector Byte 512) (i n k : Nat) (h : k < n) :
    (readSlots img i n).getD k 0 = img.getD (i + k) 0 := by
  induction n generalizing i k with
  | zero => omega
  | succ n ih =>
    cases k with
    | zero => simp [readSlots]
    | succ k =>
      simp only [readSlots, List.getD_cons_succ]
      rw [ih (i + 1) k (by omega)]
      congr 1
      omega

/-! ### Changes of fixtures -/

/-- A changed fixture is read as it was written, and the others as before. -/
theorem State.setFixture_fixture? (s : State) (i j : Fin 128) (f : Option Fixture) :
    (s.setFixture i f).fixture? j = if j = i then f else s.fixture? j := by
  by_cases h : j = i
  · subst h; simp [State.setFixture, State.fixture?]
  · have hv : i.val ≠ j.val := fun e => h (Fin.ext e.symm)
    simp [State.setFixture, State.fixture?, h, hv]

/-- A change of one defined fixture changes it alone. -/
theorem State.modifyFixture_fixture? (s : State) (i j : Fin 128) (f : Fixture → Fixture) :
    (s.modifyFixture i f).fixture? j = if j = i then (s.fixture? i).map f else s.fixture? j := by
  unfold State.modifyFixture
  split
  · rename_i fx h
    rw [State.setFixture_fixture?, h]
    simp
  · rename_i h
    by_cases hj : j = i
    · subst hj; simp [h]
    · simp [hj]

/-- A change of listed fixtures changes each of them once, and no other. -/
theorem State.modifyFixtures_fixture? (l : List (Fin 128)) (hl : l.Nodup) (s : State) (f : Fixture → Fixture) (j : Fin 128) :
    (s.modifyFixtures l f).fixture? j = if j ∈ l then (s.fixture? j).map f else s.fixture? j := by
  unfold State.modifyFixtures
  induction l generalizing s with
  | nil => simp
  | cons i l ih =>
    have hi : i ∉ l := (List.nodup_cons.mp hl).1
    rw [List.foldl_cons, ih (List.nodup_cons.mp hl).2, State.modifyFixture_fixture?]
    by_cases hj : j = i
    · subst hj; simp [hi]
    · simp [hj]

/-- A change of fixtures leaves every other block alone. -/
theorem State.modifyFixtures_eq (l : List (Fin 128)) (s : State) (f : Fixture → Fixture) :
    s.modifyFixtures l f =
      { s with fxe := { s.fxe with fixtures := (s.modifyFixtures l f).fxe.fixtures } } := by
  unfold State.modifyFixtures
  induction l generalizing s with
  | nil => rfl
  | cons i l ih =>
    rw [List.foldl_cons, ih]
    unfold State.modifyFixture State.setFixture
    split <;> rfl

/-! ### Selectors (R13) -/

/-- The expansion of a selector has no fixture twice. -/
theorem State.expand_nodup (s : State) (sel : Selector) : (s.expand sel).Nodup := by
  cases sel <;> exact List.Nodup.filter _ (List.nodup_finRange 128)

/-- A fixture is in the expansion of a selector when it is defined and the selector names it. -/
theorem State.mem_expand (s : State) (sel : Selector) (i : Fin 128) :
    i ∈ s.expand sel ↔ (s.fixture? i).any (sel.names i) = true := by
  cases sel with
  | fixture n =>
    cases h : s.fixture? i <;> simp [State.expand, Selector.names, h]
  | group g =>
    cases h : s.fixture? i <;> simp [State.expand, State.fixturesWhere, Selector.names, Fixture.inGroup, h]
  | all =>
    cases h : s.fixture? i <;> simp [State.expand, State.fixturesWhere, Selector.names, h]

/-- A change of the fixtures a selector names, fixture by fixture. -/
theorem State.changeNamed_fixture? (s : State) (sel : Selector) (f : Fixture → Fixture) (i : Fin 128) :
    (s.modifyFixtures (s.expand sel) f).fixture? i = (s.fixture? i).map fun x => if sel.names i x then f x else x := by
  rw [State.modifyFixtures_fixture? _ (s.expand_nodup sel)]
  simp only [State.mem_expand]
  cases h : s.fixture? i with
  | none => simp
  | some x =>
    by_cases hn : sel.names i x = true <;> simp [hn]

/-! ### Notices (R182) -/

/-- A notice joins the tail of a queue with room. -/
theorem Rqd.raise_of_room {q : Rqd} {n : NoticeRecord} (h : q.notices.length < 32) :
    q.raise n = { q with notices := q.notices ++ [n] } := by
  simp [Rqd.raise, h]

/-- A notice that meets a full queue is lost and counted. -/
theorem Rqd.raise_of_full {q : Rqd} {n : NoticeRecord} (h : 32 ≤ q.notices.length) :
    q.raise n = { q with lost := min (q.lost + 1) 65535, stats := { q.stats with lostNotices := q.stats.lostNotices + 1 } } := by
  simp [Rqd.raise, Nat.not_lt.mpr h]

/-- A notice leaves the lanes and the request in progress alone, and keeps the bound of the queue. -/
theorem Rqd.raise_bounded {q : Rqd} {n : NoticeRecord} (h : q.notices.length ≤ 32) :
    (q.raise n).notices.length ≤ 32 ∧ (q.raise n).normal = q.normal ∧ (q.raise n).urgent = q.urgent ∧
      (q.raise n).inProgress = q.inProgress := by
  unfold Rqd.raise
  split
  · rename_i hr
    have hr' : q.notices.length < 32 := hr
    refine ⟨?_, rfl, rfl, rfl⟩
    simp only [List.length_append, List.length_singleton]
    omega
  · exact ⟨h, rfl, rfl, rfl⟩

/-! ### Lanes and replies (R177 to R179) -/

/-- The four things a hand-over can do while a request is in progress. -/
theorem State.takeIn_of_inProgress {s : State} {r0 : LinkRequest} (r : LinkRequest) (h : s.rqd.inProgress = some r0) :
    s.takeIn r =
      if r.request.broadcast then
        (if s.laneHasRoom r then s.joinLane r else (s.count Stats.addDropped).raise (.broadcastDropped r.kind r.request.tag))
      else if 16 ≤ s.placesHeld then s.count Stats.addBusy
      else if s.laneHasRoom r then s.joinLane r
      else (s.count Stats.addBusy).pushReply (replyTo r (.refuse .busy)) := by
  have hj : (s.joinLane r).rqd.inProgress = some r0 := by
    unfold State.joinLane
    split <;> exact h
  unfold State.takeIn
  rw [State.beginNext_of_inProgress hj]

/-- A completion changes the link and the RQD alone. -/
theorem State.complete_eq (s : State) (r : LinkRequest) (a : Answer) :
    s.complete r a = { s with sli := (s.complete r a).sli, rqd := (s.complete r a).rqd } := by
  unfold State.complete State.beginNext State.pushReply State.dropRequest
  repeat' split
  all_goals rfl

/-- A merge of two lanes keeps every request of both, each once. -/
theorem mergeLanes_perm (normalNext : Nat → Bool) (n : Nat) (normal urgent : List LinkRequest) :
    (mergeLanes normalNext n normal urgent).Perm (normal ++ urgent) := by
  induction n generalizing normal urgent with
  | zero => exact .refl _
  | succ n ih =>
    match normal, urgent with
    | [], urgent => exact .refl _
    | a :: normal, [] => simp [mergeLanes]
    | a :: normal, b :: urgent =>
      unfold mergeLanes
      split
      · exact (ih normal (b :: urgent)).cons a
      · exact ((ih (a :: normal) urgent).cons b).trans List.perm_middle.symm

/-! ### Time -/

/-- The microsecond of a local time is never before the present. -/
theorem State.le_usOf (s : State) (t : LocalTime) : s.scu.timeUs ≤ s.usOf t := by
  simp only [State.usOf]
  split
  · rename_i h
    have : 1 ≤ (since t s.localClock).toNat := by omega
    have hm : s.scu.timeUs / 1000 + 1 ≤ s.scu.timeUs / 1000 + (since t s.localClock).toNat := by omega
    have := Nat.mul_le_mul_right 1000 hm
    omega
  · exact Nat.le_refl _

/-- To move on to the microsecond of a local time is to stand there. -/
theorem State.advanceTo_usOf (s : State) (t : LocalTime) :
    s.advanceTo (s.usOf t) = { s with scu := { s.scu with timeUs := s.usOf t } } := by
  simp [State.advanceTo, s.le_usOf t]

end Sys2Proof.Machine
end

