-- ==== Sys2Proof/Laws/Firing.lean ====
section
/-! SUPPORT. What roundings, rebuilds, firings and moves of show time do, in the terms of Safety. -/

namespace Sys2Proof.Machine

set_option Elab.async false

/-- Two states are equal when their blocks are. -/
theorem State.ext_blocks {s t : State} (h1 : s.sli = t.sli) (h2 : s.rqd = t.rqd) (h3 : s.fxe = t.fxe) (h4 : s.scu = t.scu)
    (h5 : s.pbu = t.pbu) (h6 : s.tku = t.tku) (h7 : s.sku = t.sku) (h8 : s.lnu = t.lnu) (h9 : s.ims = t.ims)
    (h10 : s.pending = t.pending) : s = t := by
  cases s; cases t; simp_all

/-! ### Roundings (section 3.7) -/

/-- For a positive divisor d, the numerator 2n + d over 2d: the quotient and what bounds it. -/
theorem half_bounds (n : Int) (d : Nat) (hd : 0 < d) :
    let q := (2 * n + d) / (2 * (d : Int))
    2 * (d * q) ≤ 2 * n + d ∧ 2 * n + d < 2 * (d * q) + 2 * d := by
  intro q
  have h1 := Int.mul_ediv_add_emod (2 * n + d) (2 * d)
  have h2 := Int.emod_nonneg (2 * n + d) (show (2 * (d : Int)) ≠ 0 by omega)
  have h3 := Int.emod_lt_of_pos (2 * n + d) (show 0 < 2 * (d : Int) by omega)
  rw [show 2 * (d : Int) * ((2 * n + d) / (2 * d)) = 2 * (d * q) by ring] at h1
  omega

/-- `halfUp` rounds half-up. -/
theorem halfUp_isHalfUp (n : Int) (d : Nat) (hd : 0 < d) : isHalfUp (halfUp n d) n d := by
  have h := half_bounds n d hd
  unfold isHalfUp halfUp
  generalize (2 * n + d) / (2 * (d : Int)) = q at *
  rw [show 2 * (d : Int) * q = 2 * (d * q) by ring, show 2 * (d : Int) * (q + 1) = 2 * (d * q) + 2 * d by ring]
  exact h

/-- Half-up rounding of a value not negative rounds half-away. -/
theorem isHalfAway_of_nonneg {n q : Int} {d : Nat} (hd : 0 < d) (hn : 0 ≤ n) (h1 : 2 * (d * q) ≤ 2 * n + d)
    (h2 : 2 * n + d < 2 * (d * q) + 2 * d) : isHalfAway q n d ∧ 0 ≤ q := by
  have hq : 0 ≤ q := by
    by_contra hc
    have : (d : Int) * q ≤ d * (-1) := Int.mul_le_mul_of_nonneg_left (by omega) (by omega)
    omega
  have hz : ((d * q.natAbs : Nat) : Int) = d * q := by push_cast; rw [abs_of_nonneg hq]
  unfold isHalfAway
  generalize (d : Int) * q = z at *
  exact ⟨⟨by omega, fun _ => by omega⟩, hq⟩

/-- `halfAway` rounds half-away. -/
theorem halfAway_isHalfAway (n : Int) (d : Nat) (hd : 0 < d) : isHalfAway (halfAway n d) n d := by
  unfold halfAway
  split
  · exact (isHalfAway_of_nonneg hd ‹_› (half_bounds n d hd).1 (half_bounds n d hd).2).1
  · obtain ⟨h, -⟩ := isHalfAway_of_nonneg hd (show 0 ≤ -n by omega) (half_bounds (-n) d hd).1 (half_bounds (-n) d hd).2
    generalize (2 * -n + (d : Int)) / (2 * d) = q at *
    obtain ⟨h1, h2⟩ := h
    unfold isHalfAway
    rw [show (d : Int) * -q - n = -(d * q - -n) by ring, Int.natAbs_neg, Int.natAbs_neg]
    exact ⟨h1, fun h => by simpa using h2 h⟩

/-! ### The rebuild of the slot images (R165) -/

/-- One slot of the next images after the static slot values of the listed fixtures have been written. -/
theorem State.writeStatics_fold (s : State) (l : Fin 8) (k : Nat) (h : k < 512) (is : List (Fin 128)) (t : State) :
    (is.foldl (fun t i => (s.fixture? i).elim t t.writeStatics) t).lnu[l].next[k] =
      is.foldl (fun v i => match s.fixture? i with
        | none => v
        | some f => if f.config.line = l ∧ covers f.config.start f.statics.length k
            then f.statics.getD (k - (f.config.start - 1)) 0 else v) (t.lnu[l].next[k]) := by
  induction is generalizing t with
  | nil => rfl
  | cons i is ih =>
    rw [List.foldl_cons, List.foldl_cons, ih]
    congr 1
    cases hf : s.fixture? i with
    | none => rfl
    | some f =>
      simp only [Option.elim, State.writeStatics, State.modifyLine, Line.writeNext]
      by_cases hl : f.config.line = l
      · subst hl
        simp only [Fin.getElem_fin, Vector.getElem_set_self, true_and]
        rw [writeSlots_getElem _ _ _ _ h]
        simp only [covers]
        by_cases h1 : f.config.start - 1 ≤ k <;> by_cases h2 : k < f.config.start - 1 + f.statics.length <;> simp [h1, h2]
      · have : (f.config.line : Nat) ≠ (l : Nat) := fun hc => hl (Fin.ext hc)
        simp [hl, this]

/-- The rebuild leaves the images as R165 says. -/
theorem State.rebuildImages_imagesRebuilt (s : State) : s.rebuildImages.imagesRebuilt := by
  intro l k h covering
  let put := fun (v : Byte) (i : Fin 128) => match s.fixture? i with
    | none => v
    | some f => if f.config.line = l ∧ covers f.config.start f.statics.length k
        then f.statics.getD (k - (f.config.start - 1)) 0 else v
  have slot : s.rebuildImages.lnu[l].next[k] = (List.finRange 128).foldl put ((s.lnu[l]).statics[k]) := by
    have := s.writeStatics_fold l k h (List.finRange 128) { s with lnu := s.lnu.map fun l => { l with next := l.statics } }
    unfold State.rebuildImages
    simp only [State.swapImages, Fin.getElem_fin, Vector.getElem_map, Line.swap] at this ⊢
    exact this
  have skip : ∀ (is : List (Fin 128)) (v : Byte), (∀ i ∈ is, ∀ f, s.fixture? i = some f → ¬covering f) →
      is.foldl put v = v := by
    intro is
    induction is with
    | nil => intro v _; rfl
    | cons i is ih =>
      intro v hn
      have hi : put v i = v := by
        simp only [put]
        cases hf : s.fixture? i with
        | none => rfl
        | some f => simp only; rw [if_neg (hn i (by simp) f hf)]
      rw [List.foldl_cons, hi]
      exact ih v fun j hj => hn j (by simp [hj])
  have hfix : ∀ i, s.rebuildImages.fixture? i = s.fixture? i := fun i => by unfold State.fixture?; simp
  have hstat : (s.rebuildImages.lnu[l]).statics = (s.lnu[l]).statics := by
    have := foldl_keeps (fun t : State => (t.lnu[l]).statics) (fun t i => (s.fixture? i).elim t t.writeStatics)
      (fun t i => by
        cases s.fixture? i with
        | none => rfl
        | some f =>
          simp only [Option.elim, State.writeStatics, State.modifyLine, Line.writeNext]
          by_cases hl : f.config.line = l
          · subst hl
            simp
          · have : (f.config.line : Nat) ≠ (l : Nat) := fun hc => hl (Fin.ext hc)
            simp [this])
      (List.finRange 128) { s with lnu := s.lnu.map fun l => { l with next := l.statics } }
    unfold State.rebuildImages
    simp only [State.swapImages, Fin.getElem_fin, Vector.getElem_map, Line.swap] at this ⊢
    exact this
  simp only [hfix]
  refine ⟨by unfold State.rebuildImages; simp [State.swapImages, Line.swap], fun hn => ?_, fun i f hf hc hlast => ?_⟩
  · rw [slot, skip _ _ fun i _ => hn i]
    simp only [hstat]
  · obtain ⟨before, after, hsplit⟩ := List.append_of_mem (List.mem_finRange i)
    have hlt : ∀ j ∈ after, i < j := by
      have := List.pairwise_lt_finRange 128
      rw [hsplit] at this
      exact fun j hj => (List.pairwise_cons.mp (List.pairwise_append.mp this).2.1).1 j hj
    rw [slot, hsplit, List.foldl_append, List.foldl_cons, skip after _ fun j hj g hg => hlast j g (hlt j hj) hg]
    simp only [put, hf]
    rw [if_pos hc]

/-! ### One part, one cue (R107 to R111) -/

/-- A fired part gives one fixture what R107 to R111 say. -/
theorem Firing.firePart_eq_given (w : Firing) (p : PartRecord) (s : State) (f : Fixture) :
    w.firePart p s f = p.given (s.profileOf f.config) w.cue w.moment w.snapped f := by
  obtain ⟨cue, now, snapped⟩ := w
  have hsh : shapeOf p.shape.toNat = if p.shape = 1 then .ease else .linear := by
    unfold shapeOf
    have : p.shape.toNat = 1 ↔ p.shape = 1 := ⟨fun h => BitVec.eq_of_toNat_eq h, fun h => by rw [h]; rfl⟩
    simp only [this]
  simp only [Firing.firePart, Firing.fireAim, Firing.fireColour, Firing.fireLevel, PartRecord.given, Firing.delay, Firing.fade,
    limitFade, Config.maxFade, hsh]
  cases ha : p.aim <;> cases hc : p.colour <;> cases hl : p.levelValue <;> cases now <;> cases snapped <;>
    simp [Fixture.startAim, Fixture.startColour, Fixture.startLevel, aimStart, Firing.pendingOf, Moment.later, Firing.delay,
      Firing.fade, limitFade, Config.maxFade, laterBy, hsh, State.profileOf] <;>
    (repeat' split) <;> simp_all

/-- A fired part keeps the configuration. -/
theorem PartRecord.given_config (p : PartRecord) (prof : Profile) (c : Nat) (m : Moment) (b : Bool) (f : Fixture) :
    (p.given prof c m b f).config = f.config := rfl

/-- What a selector names does not depend on a runtime record. -/
theorem Selector.names_given (sel : Selector) (i : Fin 128) (p : PartRecord) (prof : Profile) (c : Nat) (m : Moment)
    (b : Bool) (f : Fixture) : sel.names i (p.given prof c m b f) = sel.names i f := by
  cases sel <;> rfl

/-- The profile a configuration names depends on the profile table alone. -/
theorem State.profileOf_congr {s t : State} (h : t.fxe.profiles = s.fxe.profiles) (c : FixtureConfig) :
    t.profileOf c = s.profileOf c := by
  unfold State.profileOf
  rw [h]

/-- One part of a firing over the fixtures. -/
theorem Firing.part_fixture? (w : Firing) (p : PartRecord) (s : State) (i : Fin 128) :
    (s.modifyFixtures (s.partFixtures p) (fun f => w.firePart p s f)).fixture? i =
      (s.fixture? i).map fun f => if p.selector.any (fun sel => sel.names i f)
        then p.given (s.profileOf f.config) w.cue w.moment w.snapped f else f := by
  unfold State.partFixtures
  cases hsel : p.selector with
  | none => simp [State.modifyFixtures]
  | some sel =>
    simp only [Option.map_some, Option.getD_some, Option.any_some]
    rw [State.changeNamed_fixture?]
    simp only [Firing.firePart_eq_given]

/-- The walk over the parts: the fixtures alone change, each as the parts that name it say, in stored order. -/
theorem Firing.walk_spec (w : Firing) (parts : List PartRecord) (s : State) (a b : Nat) :
    (w.walk parts (s, a, b)).1 = { s with fxe := { s.fxe with fixtures := (w.walk parts (s, a, b)).1.fxe.fixtures } } ∧
    ∀ i, (w.walk parts (s, a, b)).1.fixture? i = (s.fixture? i).map fun f => parts.foldl
      (fun g p => if p.selector.any (fun sel => sel.names i f)
        then p.given (s.profileOf f.config) w.cue w.moment w.snapped g else g) f := by
  induction parts generalizing s a b with
  | nil => simp [Firing.walk]
  | cons p rest ih =>
    simp only [Firing.walk]
    obtain ⟨h1, h2⟩ := ih (s.modifyFixtures (s.partFixtures p) (fun f => w.firePart p s f))
      (if w.delay p = 0 then a + (s.partFixtures p).length * p.attributeCount else a)
      (if w.delay p = 0 then b else b + (s.partFixtures p).length * p.attributeCount)
    refine ⟨by rw [h1, State.modifyFixtures_eq], fun i => ?_⟩
    rw [h2, Firing.part_fixture?]
    cases hf : s.fixture? i with
    | none => rfl
    | some f =>
      simp only [Option.map_some, List.foldl_cons]
      have hp : ∀ c, (s.modifyFixtures (s.partFixtures p) (fun f => w.firePart p s f)).profileOf c = s.profileOf c :=
        State.profileOf_congr (by rw [State.modifyFixtures_eq])
      by_cases hn : p.selector.any (fun sel => sel.names i f) = true
      · simp only [hn, if_true]
        congr 2
        funext g p'
        rw [PartRecord.given_config, hp]
        simp only [Selector.names_given]
      · simp only [hn, hp]
        rfl

/-! ### Timeline entries (R112, R113, R138) -/

/-- What entries give the fixtures depends on the cues and the profiles alone. -/
theorem State.timelineGives_congr {s t : State} (hc : t.pbu.cues = s.pbu.cues) (hp : t.fxe.profiles = s.fxe.profiles) :
    t.timelineGives = s.timelineGives := by
  funext es time b i f
  unfold State.timelineGives State.cueGives State.cueOf State.profileOf
  rw [hc, hp]

/-- The MISSING-CUE notices of entries depend on the cues, the RQD and the local clock alone. -/
theorem State.missed_rqd_congr {s t u v : State} (es : List TimelineEntry) (hc : t.pbu = s.pbu) (hr : u.rqd = v.rqd)
    (ht : u.scu.timeUs = v.scu.timeUs) :
    (es.foldl (fun u e => if (t.cueOf e.cue).state = .ready then u else u.raise (.missingCue e.cue)) u).rqd =
      (es.foldl (fun u e => if (s.cueOf e.cue).state = .ready then u else u.raise (.missingCue e.cue)) v).rqd := by
  induction es generalizing u v with
  | nil => exact hr
  | cons e es ih =>
    rw [List.foldl_cons, List.foldl_cons]
    apply ih
    · unfold State.cueOf
      rw [hc]
      split
      · exact hr
      · simp [State.raise, hr, State.localClock, ht]
    · unfold State.cueOf
      rw [hc]
      split
      · exact ht
      · simpa [State.raise] using ht

/-- MISSING-CUE notices change the RQD alone. -/
theorem State.missed_keeps (s : State) (es : List TimelineEntry) : s.missed es = { s with rqd := (s.missed es).rqd } := by
  have h : ∀ (es : List TimelineEntry) (u : State),
      es.foldl (fun u e => if (s.cueOf e.cue).state = .ready then u else u.raise (.missingCue e.cue)) u =
        { u with rqd := (es.foldl
          (fun u e => if (s.cueOf e.cue).state = .ready then u else u.raise (.missingCue e.cue)) u).rqd } := by
    intro es
    induction es with
    | nil => intro u; rfl
    | cons e es ih =>
      intro u
      rw [List.foldl_cons, ih]
      split <;> rfl
  exact h es s

/-- One entry handed to the PBU. -/
theorem State.fireEntry_spec (b : Bool) (s : State) (e : TimelineEntry) :
    s.fireEntry b e = { s with
      fxe := { s.fxe with fixtures := (s.fireEntry b e).fxe.fixtures }, rqd := (s.missed [e]).rqd } ∧
    ∀ i, (s.fireEntry b e).fixture? i = (s.fixture? i).map (s.timelineGives [e] s.scu.showTime b i) := by
  unfold State.fireEntry State.missed State.timelineGives
  by_cases h : (s.cueOf e.cue).state = .ready
  · simp only [h, if_true, List.foldl_cons, List.foldl_nil]
    obtain ⟨h1, h2⟩ := Firing.walk_spec { cue := e.cue.val, moment := .onShow s.scu.showTime, snapped := b }
      (s.cueOf e.cue).parts s 0 0
    exact ⟨by conv_lhs => rw [h1], fun i => by rw [h2]; rfl⟩
  · simp [h, State.raise, State.fixture?]

/-- Entries handed to the PBU in turn: the READY cues among them fire at show time, the others raise MISSING-CUE. -/
theorem State.fireEntries_spec (b : Bool) (es : List TimelineEntry) (s : State) :
    es.foldl (State.fireEntry b) s = { s with
      fxe := { s.fxe with fixtures := (es.foldl (State.fireEntry b) s).fxe.fixtures }, rqd := (s.missed es).rqd } ∧
    ∀ i, (es.foldl (State.fireEntry b) s).fixture? i = (s.fixture? i).map (s.timelineGives es s.scu.showTime b i) := by
  induction es generalizing s with
  | nil => exact ⟨rfl, fun i => by cases h : s.fixture? i <;> simp [State.timelineGives, h]⟩
  | cons e es ih =>
    obtain ⟨a1, a2⟩ := State.fireEntry_spec b s e
    obtain ⟨b1, b2⟩ := ih (s.fireEntry b e)
    have hpb : (s.fireEntry b e).pbu = s.pbu := by rw [a1]
    have hprof : (s.fireEntry b e).fxe.profiles = s.fxe.profiles := by rw [a1]
    have hscu : (s.fireEntry b e).scu = s.scu := by rw [a1]
    have hrq : (s.fireEntry b e).rqd = (s.missed [e]).rqd := by conv_lhs => rw [a1]
    have hm : ((s.fireEntry b e).missed es).rqd = (s.missed (e :: es)).rqd :=
      State.missed_rqd_congr es hpb hrq (by
        rw [hscu]
        exact (congrArg (fun u : State => u.scu.timeUs) (State.missed_keeps s [e])).symm)
    rw [List.foldl_cons]
    refine ⟨?_, fun i => ?_⟩
    · conv_lhs => rw [b1, hm]
      have hz : (s.fireEntry b e).fxe.zones = s.fxe.zones := by rw [a1]
      have hpass : (s.fireEntry b e).fxe.pass = s.fxe.pass := by rw [a1]
      apply State.ext_blocks <;> simp [hprof, hz, hpass]
    · rw [b2, a2, hscu, State.timelineGives_congr (by rw [hpb]) hprof]
      cases s.fixture? i <;> rfl

/-- With the timeline and the cursor in order, a forward report hands on exactly the entries passed. -/
theorem State.entriesTo_eq_passed {s : State} (h : s.timelineOk) (t : Nat) : s.entriesTo t = s.entriesPassed t := by
  obtain ⟨_, hs, hc⟩ := h
  unfold State.entriesTo State.entriesPassed
  rw [hc]
  generalize s.pbu.timeline = l at *
  clear hc
  induction l with
  | nil => rfl
  | cons e l ih =>
    have hp := List.pairwise_cons.mp hs
    by_cases he : e.time ≤ s.scu.showTime
    · have hn : ¬ s.scu.showTime < e.time := by omega
      simp only [List.filter_cons, he, decide_true, if_true, List.length_cons, List.drop_succ_cons, hn, decide_false,
        Bool.false_and]
      exact ih hp.2
    · have above : ∀ x ∈ e :: l, ¬ x.time ≤ s.scu.showTime := by
        intro x hx
        rcases List.mem_cons.mp hx with rfl | hx
        · exact he
        · have := hp.1 x hx
          omega
      have h0 : (e :: l).filter (fun e => decide (e.time ≤ s.scu.showTime)) = [] :=
        List.filter_eq_nil_iff.mpr fun x hx => by simpa using above x hx
      have hf : (e :: l).filter (fun e => decide (s.scu.showTime < e.time) && decide (e.time ≤ t)) =
          (e :: l).filter (fun e => decide (e.time ≤ t)) := by
        apply List.filter_congr
        intro x hx
        have := above x hx
        simp
        omega
      rw [h0, hf]
      simp only [List.length_nil, List.drop_zero]
      generalize e :: l = m at hs
      clear * - hs
      induction m with
      | nil => rfl
      | cons a m ih =>
        have hp := List.pairwise_cons.mp hs
        by_cases ha : a.time ≤ t
        · simp [ha, ih hp.2]
        · have : (m.filter fun e => decide (e.time ≤ t)) = [] :=
            List.filter_eq_nil_iff.mpr fun x hx => by
              have := hp.1 x hx
              simp
              omega
          simp [ha, this]

/-- The cursor counts the entries reached before and after a forward move. -/
theorem State.cursor_forward {s : State} (h : s.timelineOk) (t : Nat) (ht : s.scu.showTime ≤ t) :
    s.pbu.cursor + (s.entriesPassed t).length = (s.pbu.timeline.filter fun e => decide (e.time ≤ t)).length := by
  obtain ⟨_, _, hc⟩ := h
  rw [hc]
  unfold State.entriesPassed
  generalize s.pbu.timeline = l
  clear hc
  induction l with
  | nil => rfl
  | cons e l ih =>
    simp only [List.filter_cons]
    by_cases h1 : e.time ≤ s.scu.showTime
    · have h2 : e.time ≤ t := by omega
      have h3 : ¬ s.scu.showTime < e.time := by omega
      simp [h1, h2, h3]
      omega
    · have h3 : s.scu.showTime < e.time := by omega
      by_cases h2 : e.time ≤ t <;> simp [h1, h2, h3] <;> omega

/-- A move back passes no entry. -/
theorem State.entriesPassed_back {s : State} {t : Nat} (ht : t ≤ s.scu.showTime) : s.entriesPassed t = [] := by
  unfold State.entriesPassed
  rw [List.filter_eq_nil_iff]
  intro x _
  simp
  omega

/-- A forward report. -/
theorem State.reportForward_spec (s : State) (b : Bool) (t : Nat) :
    s.reportForward b t = { s with
      fxe := { s.fxe with fixtures := (s.reportForward b t).fxe.fixtures }
      pbu := { s.pbu with cursor := s.pbu.cursor + (s.entriesTo t).length }
      rqd := (s.missed (s.entriesTo t)).rqd } ∧
    ∀ i, (s.reportForward b t).fixture? i = (s.fixture? i).map (s.timelineGives (s.entriesTo t) s.scu.showTime b i) := by
  obtain ⟨h1, h2⟩ := State.fireEntries_spec b (s.entriesTo t) s
  unfold State.reportForward
  refine ⟨?_, h2⟩
  simp only [State.setCursor]
  conv_lhs => rw [h1]

/-! ### Jumps and relocations (R119, R120) -/

/-- Show time set forward, the slip discarded, and the entries passed handed on. -/
theorem State.moveForward_spec {s : State} (h : s.timelineOk) {t : Nat} (ht : s.scu.showTime < t) (b : Bool) :
    let m := ((s.setShowTime t).discardSlip).reportForward b t
    m = { s with
      scu := { s.scu with showTime := t, lock := s.scu.lock.withSlip none }
      fxe := { s.fxe with fixtures := m.fxe.fixtures }
      pbu := { s.pbu with cursor := (s.pbu.timeline.filter fun e => decide (e.time ≤ t)).length }
      rqd := (s.missed (s.entriesPassed t)).rqd } ∧
    ∀ i, m.fixture? i = (s.fixture? i).map (s.timelineGives (s.entriesPassed t) t b i) := by
  intro m
  obtain ⟨h1, h2⟩ := State.reportForward_spec ((s.setShowTime t).discardSlip) b t
  have hg : ((s.setShowTime t).discardSlip).timelineGives = s.timelineGives := State.timelineGives_congr rfl rfl
  have he : ((s.setShowTime t).discardSlip).entriesTo t = s.entriesPassed t := State.entriesTo_eq_passed h t
  have hm : (((s.setShowTime t).discardSlip).missed (s.entriesPassed t)).rqd = (s.missed (s.entriesPassed t)).rqd :=
    State.missed_rqd_congr (s.entriesPassed t) rfl rfl rfl
  rw [he] at h1 h2
  rw [hm] at h1
  refine ⟨?_, fun i => ?_⟩
  · conv_lhs => rw [show m = _ from h1]
    rw [← State.cursor_forward h t (Nat.le_of_lt ht)]
    rfl
  · rw [show m.fixture? i = _ from h2 i, hg]
    rfl

/-- The cursor of a backward report counts the entries reached. -/
theorem cursorAt_eq (l : List TimelineEntry) (t : Nat) : cursorAt l t = (l.filter fun e => decide (e.time ≤ t)).length := by
  unfold cursorAt
  exact List.countP_eq_length_filter

/-- No entries give a fixture nothing. -/
theorem State.timelineGives_nil (s : State) (t : Nat) (b : Bool) (i : Fin 128) (o : Option Fixture) :
    o.map (s.timelineGives [] t b i) = o := by
  cases o <;> rfl

/-- Jump processing moves show time as R120 says. -/
theorem State.jumpTo_movesTo {s : State} (h : s.timelineOk) (t : Nat) : s.movesTo (s.jumpTo t) t true := by
  unfold State.movesTo State.jumpTo
  by_cases hlt : s.scu.showTime < t
  · obtain ⟨h1, h2⟩ := State.moveForward_spec h hlt true
    simp only [hlt, if_true]
    refine ⟨?_, fun i => h2 i⟩
    generalize ((s.setShowTime t).discardSlip).reportForward true t = m at *
    have hr : m.rqd = (s.missed (s.entriesPassed t)).rqd := by conv_lhs => rw [h1]
    have hc : m.localClock = (s.missed (s.entriesPassed t)).localClock := by
      rw [State.missed_keeps, h1]
      rfl
    have hj : (m.raise (.jump s.scu.showTime t)).count Stats.addJump = { m with
        rqd := (((s.missed (s.entriesPassed t)).raise (.jump s.scu.showTime t)).count Stats.addJump).rqd } := by
      simp only [State.raise, State.count, hr, hc]
    rw [hj]
    conv_lhs => rw [h1]
  · simp only [hlt, if_true, if_false, State.entriesPassed_back (Nat.le_of_not_lt hlt)]
    refine ⟨?_, fun i => ?_⟩
    · simp only [State.reportBackward, State.setCursor, cursorAt_eq, State.setShowTime, State.discardSlip, State.setLock,
        State.missed, List.foldl_nil, State.raise, State.count, State.localClock]
    · rw [State.timelineGives_nil]
      rfl

/-- A relocation moves show time as R119 says, by jump processing where the distance reaches J. -/
theorem State.relocate_movesTo {s : State} (h : s.timelineOk) (t : Nat) :
    s.movesTo (s.relocate t) t (decide (s.scu.jumpThreshold ≤ ((t : Int) - s.scu.showTime).natAbs)) := by
  unfold State.relocate showDistance
  by_cases hj : s.scu.jumpThreshold ≤ ((t : Int) - s.scu.showTime).natAbs
  · simpa [hj] using State.jumpTo_movesTo h t
  · simp only [hj, if_false, decide_false]
    unfold State.movesTo
    by_cases hlt : s.scu.showTime < t
    · simp only [hlt, if_true, Bool.false_eq_true, if_false]
      exact State.moveForward_spec h hlt false
    · simp only [hlt, if_false, Bool.false_eq_true, State.entriesPassed_back (Nat.le_of_not_lt hlt)]
      refine ⟨?_, fun i => ?_⟩
      · split
        · simp only [State.reportBackward, State.setCursor, cursorAt_eq, State.setShowTime, State.discardSlip, State.setLock,
            State.missed, List.foldl_nil]
        · have : t = s.scu.showTime := by omega
          subst this
          simp only [State.setShowTime, State.discardSlip, State.setLock, State.missed, List.foldl_nil, ← h.2.2]
      · rw [State.timelineGives_nil]
        split <;> rfl

/-- A move of show time within the day keeps the timeline and the cursor in order. -/
theorem State.movesTo_timelineOk {s t : State} {time : Nat} {jump : Bool} (h : s.timelineOk) (ht : time ≤ 86399999)
    (hm : s.movesTo t time jump) : t.timelineOk := by
  obtain ⟨e, -⟩ := hm
  have a : t.scu.showTime = time := by rw [e]
  have b : t.pbu.timeline = s.pbu.timeline := by rw [e]
  have c : t.pbu.cursor = (s.pbu.timeline.filter fun e => decide (e.time ≤ time)).length := by rw [e]
  exact ⟨by rw [a]; exact ht, by rw [b]; exact h.2.1, by rw [a, b, c]⟩

/-! ### The evaluation (R26, R34) -/

/-- The elapsed time of the model is that of R26. -/
theorem elapsedAt_eq (p : Pass) (m : Moment) : elapsedAt p m = p.elapsed m := by cases m <;> rfl

/-- The progress of a transition is that of R26. -/
theorem Transition.progress_eq {α : Type} (p : Pass) (t : Transition α) : t.progress p = p.progress t := by
  unfold Transition.progress Pass.progress
  rw [elapsedAt_eq]
  have h : (max 0 (min (t.duration : Int) (p.elapsed t.start))).toNat = min t.duration (p.elapsed t.start).toNat := by omega
  cases h1 : t.held <;> cases h2 : t.start <;> simp [Moment.isLocal] <;> rw [← h2] at * <;> simp_all

/-- A transition after the pass has found its progress. -/
theorem Transition.observed_eq {α : Type} (p : Pass) (t : Transition α) : t.observed (t.progress p) = p.seen t := by
  unfold Transition.observed Pass.seen
  rw [Transition.progress_eq]
  have : (p.progress t == t.duration) = decide (p.progress t = t.duration) := by
    by_cases h : p.progress t = t.duration <;> simp [h]
  rw [this]
  cases t.start <;> simp [Moment.isLocal]

/-- A pending transition is promoted when the pass has reached its due time. -/
theorem isDue_eq {α : Type} (p : Pass) (x : Pending α) : isDue p x = decide (0 ≤ p.elapsed x.due) := by
  unfold isDue
  rw [elapsedAt_eq]

end Sys2Proof.Machine
end

