-- ==== Sys2Proof/Laws/PerInstr.lean ====
section
/-! SUPPORT. Statements made for each command, with one lemma per constructor of `Instr`. -/

namespace Sys2Proof.Laws

/-- The kind byte and the request of a request command say the command again, with what the stick inputs read where it takes
readings: the codes of Table 33 are read back as they are written. -/
def LinkCode.Statement (i : Instr) : Prop :=
  ∀ kind q, i.kindByte = some kind → i.request = some q → i.kindOk = true → ∃ adc, commandOf kind q adc = i

theorem LinkCode.powerOn (straps : BitVec 4) : LinkCode.Statement (.powerOn straps) := by
  intro k r hk
  cases hk

theorem LinkCode.resetPin (straps : BitVec 4) : LinkCode.Statement (.resetPin straps) := by
  intro k r hk
  cases hk

theorem LinkCode.frameReceived (bytes : List Byte) : LinkCode.Statement (.frameReceived bytes) := by
  intro k r hk
  cases hk

theorem LinkCode.replySent : LinkCode.Statement (.replySent) := by
  intro k r hk
  cases hk

/-- A kind byte that Table 33 does not list is read as an unknown kind. -/
theorem LinkCode.unknownKind (kind : Byte) (q : Request) : LinkCode.Statement (.unknownKind kind q) := by
  intro k r hk hr ho
  cases hk
  cases hr
  refine ⟨⟨0, 0, 0, 0⟩, ?_⟩
  simp only [Instr.kindOk, Bool.not_eq_eq_eq_not, Bool.not_true] at ho
  unfold commandOf
  split <;> first
    | rfl
    | (rename_i h; exact absurd ho (by simp [isKnownKind, h]))

theorem LinkCode.unitQuery (q : Request) : LinkCode.Statement (.unitQuery q) := by
  intro k r hk hr _
  cases hk
  cases hr
  exact ⟨⟨0, 0, 0, 0⟩, rfl⟩

theorem LinkCode.noticePoll (q : Request) : LinkCode.Statement (.noticePoll q) := by
  intro k r hk hr _
  cases hk
  cases hr
  exact ⟨⟨0, 0, 0, 0⟩, rfl⟩

theorem LinkCode.stats (q : Request) : LinkCode.Statement (.stats q) := by
  intro k r hk hr _
  cases hk
  cases hr
  exact ⟨⟨0, 0, 0, 0⟩, rfl⟩

theorem LinkCode.save (q : Request) : LinkCode.Statement (.save q) := by
  intro k r hk hr _
  cases hk
  cases hr
  exact ⟨⟨0, 0, 0, 0⟩, rfl⟩

theorem LinkCode.saveCompletion (matched : Bool) : LinkCode.Statement (.saveCompletion matched) := by
  intro k r hk
  cases hk

theorem LinkCode.restart (q : Request) : LinkCode.Statement (.restart q) := by
  intro k r hk hr _
  cases hk
  cases hr
  exact ⟨⟨0, 0, 0, 0⟩, rfl⟩

theorem LinkCode.clearShow (q : Request) : LinkCode.Statement (.clearShow q) := by
  intro k r hk hr _
  cases hk
  cases hr
  exact ⟨⟨0, 0, 0, 0⟩, rfl⟩

theorem LinkCode.profileLoad (q : Request) : LinkCode.Statement (.profileLoad q) := by
  intro k r hk hr _
  cases hk
  cases hr
  exact ⟨⟨0, 0, 0, 0⟩, rfl⟩

theorem LinkCode.profileRemove (q : Request) : LinkCode.Statement (.profileRemove q) := by
  intro k r hk hr _
  cases hk
  cases hr
  exact ⟨⟨0, 0, 0, 0⟩, rfl⟩

theorem LinkCode.profileRead (q : Request) : LinkCode.Statement (.profileRead q) := by
  intro k r hk hr _
  cases hk
  cases hr
  exact ⟨⟨0, 0, 0, 0⟩, rfl⟩

theorem LinkCode.fixtureDefine (q : Request) : LinkCode.Statement (.fixtureDefine q) := by
  intro k r hk hr _
  cases hk
  cases hr
  exact ⟨⟨0, 0, 0, 0⟩, rfl⟩

theorem LinkCode.fixtureRemove (q : Request) : LinkCode.Statement (.fixtureRemove q) := by
  intro k r hk hr _
  cases hk
  cases hr
  exact ⟨⟨0, 0, 0, 0⟩, rfl⟩

theorem LinkCode.fixtureSlots (q : Request) : LinkCode.Statement (.fixtureSlots q) := by
  intro k r hk hr _
  cases hk
  cases hr
  exact ⟨⟨0, 0, 0, 0⟩, rfl⟩

theorem LinkCode.fixtureRead (q : Request) : LinkCode.Statement (.fixtureRead q) := by
  intro k r hk hr _
  cases hk
  cases hr
  exact ⟨⟨0, 0, 0, 0⟩, rfl⟩

theorem LinkCode.groupSet (q : Request) : LinkCode.Statement (.groupSet q) := by
  intro k r hk hr _
  cases hk
  cases hr
  exact ⟨⟨0, 0, 0, 0⟩, rfl⟩

theorem LinkCode.groupRead (q : Request) : LinkCode.Statement (.groupRead q) := by
  intro k r hk hr _
  cases hk
  cases hr
  exact ⟨⟨0, 0, 0, 0⟩, rfl⟩

theorem LinkCode.zoneSet (q : Request) : LinkCode.Statement (.zoneSet q) := by
  intro k r hk hr _
  cases hk
  cases hr
  exact ⟨⟨0, 0, 0, 0⟩, rfl⟩

theorem LinkCode.zoneRead (q : Request) : LinkCode.Statement (.zoneRead q) := by
  intro k r hk hr _
  cases hk
  cases hr
  exact ⟨⟨0, 0, 0, 0⟩, rfl⟩

theorem LinkCode.aim (q : Request) : LinkCode.Statement (.aim q) := by
  intro k r hk hr _
  cases hk
  cases hr
  exact ⟨⟨0, 0, 0, 0⟩, rfl⟩

theorem LinkCode.tint (q : Request) : LinkCode.Statement (.tint q) := by
  intro k r hk hr _
  cases hk
  cases hr
  exact ⟨⟨0, 0, 0, 0⟩, rfl⟩

theorem LinkCode.level (q : Request) : LinkCode.Statement (.level q) := by
  intro k r hk hr _
  cases hk
  cases hr
  exact ⟨⟨0, 0, 0, 0⟩, rfl⟩

theorem LinkCode.fixtureQuery (q : Request) : LinkCode.Statement (.fixtureQuery q) := by
  intro k r hk hr _
  cases hk
  cases hr
  exact ⟨⟨0, 0, 0, 0⟩, rfl⟩

theorem LinkCode.park (q : Request) : LinkCode.Statement (.park q) := by
  intro k r hk hr _
  cases hk
  cases hr
  exact ⟨⟨0, 0, 0, 0⟩, rfl⟩

theorem LinkCode.stop (q : Request) : LinkCode.Statement (.stop q) := by
  intro k r hk hr _
  cases hk
  cases hr
  exact ⟨⟨0, 0, 0, 0⟩, rfl⟩

theorem LinkCode.douse (q : Request) : LinkCode.Statement (.douse q) := by
  intro k r hk hr _
  cases hk
  cases hr
  exact ⟨⟨0, 0, 0, 0⟩, rfl⟩

theorem LinkCode.release (q : Request) : LinkCode.Statement (.release q) := by
  intro k r hk hr _
  cases hk
  cases hr
  exact ⟨⟨0, 0, 0, 0⟩, rfl⟩

theorem LinkCode.go (q : Request) : LinkCode.Statement (.go q) := by
  intro k r hk hr _
  cases hk
  cases hr
  exact ⟨⟨0, 0, 0, 0⟩, rfl⟩

theorem LinkCode.cueOpen (q : Request) : LinkCode.Statement (.cueOpen q) := by
  intro k r hk hr _
  cases hk
  cases hr
  exact ⟨⟨0, 0, 0, 0⟩, rfl⟩

theorem LinkCode.cuePart (q : Request) : LinkCode.Statement (.cuePart q) := by
  intro k r hk hr _
  cases hk
  cases hr
  exact ⟨⟨0, 0, 0, 0⟩, rfl⟩

theorem LinkCode.cueDelete (q : Request) : LinkCode.Statement (.cueDelete q) := by
  intro k r hk hr _
  cases hk
  cases hr
  exact ⟨⟨0, 0, 0, 0⟩, rfl⟩

theorem LinkCode.cueRead (q : Request) : LinkCode.Statement (.cueRead q) := by
  intro k r hk hr _
  cases hk
  cases hr
  exact ⟨⟨0, 0, 0, 0⟩, rfl⟩

theorem LinkCode.showTime (q : Request) : LinkCode.Statement (.showTime q) := by
  intro k r hk hr _
  cases hk
  cases hr
  exact ⟨⟨0, 0, 0, 0⟩, rfl⟩

theorem LinkCode.clockSet (q : Request) : LinkCode.Statement (.clockSet q) := by
  intro k r hk hr _
  cases hk
  cases hr
  exact ⟨⟨0, 0, 0, 0⟩, rfl⟩

theorem LinkCode.clockQuery (q : Request) : LinkCode.Statement (.clockQuery q) := by
  intro k r hk hr _
  cases hk
  cases hr
  exact ⟨⟨0, 0, 0, 0⟩, rfl⟩

theorem LinkCode.timelineAdd (q : Request) : LinkCode.Statement (.timelineAdd q) := by
  intro k r hk hr _
  cases hk
  cases hr
  exact ⟨⟨0, 0, 0, 0⟩, rfl⟩

theorem LinkCode.timelineRemove (q : Request) : LinkCode.Statement (.timelineRemove q) := by
  intro k r hk hr _
  cases hk
  cases hr
  exact ⟨⟨0, 0, 0, 0⟩, rfl⟩

theorem LinkCode.timelineRead (q : Request) : LinkCode.Statement (.timelineRead q) := by
  intro k r hk hr _
  cases hk
  cases hr
  exact ⟨⟨0, 0, 0, 0⟩, rfl⟩

theorem LinkCode.trackBind (q : Request) : LinkCode.Statement (.trackBind q) := by
  intro k r hk hr _
  cases hk
  cases hr
  exact ⟨⟨0, 0, 0, 0⟩, rfl⟩

theorem LinkCode.trackPoints (q : Request) : LinkCode.Statement (.trackPoints q) := by
  intro k r hk hr _
  cases hk
  cases hr
  exact ⟨⟨0, 0, 0, 0⟩, rfl⟩

theorem LinkCode.trackRelease (q : Request) : LinkCode.Statement (.trackRelease q) := by
  intro k r hk hr _
  cases hk
  cases hr
  exact ⟨⟨0, 0, 0, 0⟩, rfl⟩

theorem LinkCode.trackQuery (q : Request) : LinkCode.Statement (.trackQuery q) := by
  intro k r hk hr _
  cases hk
  cases hr
  exact ⟨⟨0, 0, 0, 0⟩, rfl⟩

theorem LinkCode.stickSet (q : Request) : LinkCode.Statement (.stickSet q) := by
  intro k r hk hr _
  cases hk
  cases hr
  exact ⟨⟨0, 0, 0, 0⟩, rfl⟩

theorem LinkCode.stickCentre (q : Request) (adc : Readings) : LinkCode.Statement (.stickCentre q adc) := by
  intro k r hk hr _
  cases hk
  cases hr
  exact ⟨adc, rfl⟩

theorem LinkCode.stickZero (q : Request) : LinkCode.Statement (.stickZero q) := by
  intro k r hk hr _
  cases hk
  cases hr
  exact ⟨⟨0, 0, 0, 0⟩, rfl⟩

theorem LinkCode.stickSample (q : Request) (adc : Readings) : LinkCode.Statement (.stickSample q adc) := by
  intro k r hk hr _
  cases hk
  cases hr
  exact ⟨adc, rfl⟩

theorem LinkCode.stickQuery (q : Request) : LinkCode.Statement (.stickQuery q) := by
  intro k r hk hr _
  cases hk
  cases hr
  exact ⟨⟨0, 0, 0, 0⟩, rfl⟩

theorem LinkCode.lineSet (q : Request) : LinkCode.Statement (.lineSet q) := by
  intro k r hk hr _
  cases hk
  cases hr
  exact ⟨⟨0, 0, 0, 0⟩, rfl⟩

theorem LinkCode.linePin (q : Request) : LinkCode.Statement (.linePin q) := by
  intro k r hk hr _
  cases hk
  cases hr
  exact ⟨⟨0, 0, 0, 0⟩, rfl⟩

theorem LinkCode.lineStatic (q : Request) : LinkCode.Statement (.lineStatic q) := by
  intro k r hk hr _
  cases hk
  cases hr
  exact ⟨⟨0, 0, 0, 0⟩, rfl⟩

theorem LinkCode.lineQuery (q : Request) : LinkCode.Statement (.lineQuery q) := by
  intro k r hk hr _
  cases hk
  cases hr
  exact ⟨⟨0, 0, 0, 0⟩, rfl⟩

theorem LinkCode.lineImage (q : Request) : LinkCode.Statement (.lineImage q) := by
  intro k r hk hr _
  cases hk
  cases hr
  exact ⟨⟨0, 0, 0, 0⟩, rfl⟩

theorem LinkCode.stepExpiry (adc : Readings) (sampling : Nat) : LinkCode.Statement (.stepExpiry adc sampling) := by
  intro k r hk
  cases hk

theorem LinkCode.fixtureEvaluation : LinkCode.Statement (.fixtureEvaluation) := by
  intro k r hk
  cases hk

theorem LinkCode.passCompletion : LinkCode.Statement (.passCompletion) := by
  intro k r hk
  cases hk

theorem LinkCode.markReceived (bytes : List Byte) : LinkCode.Statement (.markReceived bytes) := by
  intro k r hk
  cases hk

theorem LinkCode.markAbandoned : LinkCode.Statement (.markAbandoned) := by
  intro k r hk
  cases hk

theorem LinkCode.confirmDeadline : LinkCode.Statement (.confirmDeadline) := by
  intro k r hk
  cases hk

theorem LinkCode.watchDeadline : LinkCode.Statement (.watchDeadline) := by
  intro k r hk
  cases hk

theorem LinkCode.frameStart (line : Fin 8) : LinkCode.Statement (.frameStart line) := by
  intro k r hk
  cases hk

theorem LinkCode.frameSent (line : Fin 8) : LinkCode.Statement (.frameSent line) := by
  intro k r hk
  cases hk

theorem LinkCode.faultInputAsserted (line : Fin 8) : LinkCode.Statement (.faultInputAsserted line) := by
  intro k r hk
  cases hk

theorem LinkCode.faultInputReleased (line : Fin 8) : LinkCode.Statement (.faultInputReleased line) := by
  intro k r hk
  cases hk

theorem LinkCode.frameAbandoned : LinkCode.Statement (.frameAbandoned) := by
  intro k r hk
  cases hk

end Sys2Proof.Laws
end

