-- ==== Sys2Proof/Tests/Slice0.lean ====
section
/-! SUPPORT. Small tests: the well-formedness checks, the worked examples of the spec, one or two results for each command, and
for each statement a state that meets its hypotheses. Expected results are the spec's own examples, or are worked out by hand
from its rules. -/

open Sys2Proof Sys2Proof.Machine

set_option Elab.async false

namespace Sys2Proof.Tests

/-! ### Helpers -/

/-- A unicast with tag 7. -/
def uni (p : List Byte) : Request := { broadcast := false, tag := 7, payload := p }

/-- The state with request `q` of kind `k` in progress. -/
def begun (s : State) (k : Byte) (q : Request) : State :=
  { s with rqd := { s.rqd with inProgress := some { kind := k, request := q } } }

/-- The state after reset with a unicast in progress. -/
def ask (k : Byte) (p : List Byte) : State := begun State.reset k (uni p)

/-- The state after a command. -/
def after (s : State) (c : Instr) : State :=
  match exec c s with
  | .next t => t
  | .fault _ => s
  | .refused _ => s

/-- The payloads of the replies built. -/
def replies (s : State) : List (List Byte) := s.sli.replies.map Reply.payload

/-- Stick inputs at rest. -/
def rest : Readings := { x0 := 2048, y0 := 2048, x1 := 2048, y1 := 2048 }

/-- The profile of sections 1.6.1 and 5.11 as the bytes of PROFILE-LOAD after its number, with blue and white of 8 bits. -/
def profileBytes : List Byte :=
  [12, 0, 1, 2, 3, 5, 6, 7, 8, 9, 255, 10, 255, 4, 0] ++ be32i (-49152) ++ be32i 49152 ++ be32i (-24576) ++ be32i 24576 ++
  be32 32768 ++ be32 32768 ++ be32 262144 ++ be32 262144 ++ be16i 16384 ++ be16i 0 ++ be16i 0 ++ be16i (-1638) ++
  be16i 18022 ++ be16i 0 ++ be16i 0 ++ be16i (-819) ++ be16i 17203 ++ be16 60000 ++ be16 60000 ++ be16 60000 ++ be16 128 ++
  [0, 0] ++ [0, 0, 0, 0, 0, 0, 0, 0, 0, 0, 0, 255]

def example1 : Profile := profileOf profileBytes

/-- The fixture of section 1.5.2 at start slot 101 of line 0, as the bytes of FIXTURE-DEFINE after its number. -/
def configBytes : List Byte :=
  [0] ++ be16 101 ++ [0] ++ be32i 0 ++ be32i 0 ++ be32i 12000 ++ [0] ++ be32i 0 ++ be32i (-49152) ++ be32i 49152 ++
  be32i (-24576) ++ be32i 24576 ++ be32i 0 ++ be32i 0 ++ be16 20000

def config1 : FixtureConfig := configOf configBytes

def fixture1 : Fixture :=
  { config := config1, groups := 1, statics := example1.defaults, run := resetRuntime config1 example1 0 }

/-- A stage with profile 0, line 0 in FRAME and, as fixture 5, the given one. -/
def stageOf (f : Fixture) : State :=
  { State.reset with
    fxe := { State.reset.fxe with
      profiles := State.reset.fxe.profiles.set 0 (some example1), fixtures := State.reset.fxe.fixtures.set 5 (some f) }
    lnu := State.reset.lnu.set 0 { Line.default with mode := .frame, armed := .frame } }

def stage : State := stageOf fixture1

theorem reset_fixture (i : Fin 128) : State.reset.fixture? i = none := by
  revert i; decide +kernel

theorem stage_fixture : ∀ i : Fin 128, i ≠ 5 → stage.fixture? i = none := by decide +kernel

theorem stage_fixture_5 : stage.fixture? 5 = some fixture1 := by decide +kernel

/-! ### Well-formedness (each check refuses an ill-formed command) -/

theorem test_wf_accepts : (Instr.aim (uni (List.replicate 240 0))).wf = true := by decide +kernel

theorem test_wf_payload : (Instr.aim (uni (List.replicate 241 0))).wf = false := by decide +kernel

theorem test_wf_kind : (Instr.unknownKind 0x20 (uni [])).wf = false := by decide

theorem test_wf_sampling : (Instr.stepExpiry rest 130).wf = false := by decide

theorem test_no_table_word : decodeTableWord 16 0x1234 = none := rfl

/-! ### Worked examples of the spec -/

/-- Section 1.5.2, example 1. -/
theorem test_aim_near : (solve config1 ⟨9000, 0, 0⟩ 30000).map Solution.angles = some ⟨32768, -6712⟩ := by decide +kernel

/-- Section 1.5.2, example 1, third row: a tie goes to tilt at or above 0. -/
theorem test_aim_tie : (solve config1 ⟨9000, 0, 0⟩ 16384).map Solution.angles = some ⟨0, 6712⟩ := by decide +kernel

/-- Section 1.5.2, example 2: the reach fallback. -/
theorem test_aim_fallback : solve config1 ⟨0, 0, 20000⟩ 30000 = some { angles := ⟨30000, 24576⟩, fallback := true } := by
  decide +kernel

/-- Section 1.6.1. -/
theorem test_counts : countsOf ⟨-49152, 49152⟩ 32768 = 54613 ∧ countsOf ⟨-24576, 24576⟩ (-6712) = 23818 := by decide +kernel

/-- Section 2.2.1: the tie at half way rounds away from zero. -/
theorem test_fade : interpolate .linear 1000 500 0 65535 = 32768 ∧ interpolate .linear 1000 996 0 65535 = 65273 := by
  decide +kernel

/-- Section 3.7.1, passes 6 and 9. -/
theorem test_limiter_brakes : slew 131 4 ⟨-24576, 24576⟩ 60 20 100 = (77, 17) ∧
    slew 131 4 ⟨-24576, 24576⟩ 99 9 100 = (100, 0) := by decide +kernel

/-- Section 3.7.2, pass 48: an arrival above astep keeps its velocity. -/
theorem test_limiter_passes_target : slew 131 4 ⟨-49152, 49152⟩ 32748 24 32768 = (32768, 20) := by decide +kernel

def zoneA : Zone := ⟨⟨-6000, 6000⟩, ⟨10000, 30000⟩, ⟨-20000, 2500⟩, .clamp, true, 0⟩
def zoneB : Zone := ⟨⟨3000, 12000⟩, ⟨9000, 10600⟩, ⟨-20000, 2500⟩, .clamp, true, 0⟩

/-- Section 4.5.1, third row: y1 comes before z2. -/
theorem test_zone_tie : zoneCheck [zoneA] [] 0 ⟨0, 12500, 0⟩ = ⟨⟨0, 10000, 0⟩, true, false⟩ := by decide +kernel

/-- Section 4.5.2: the second zone moves the point back into the first. -/
theorem test_zones_overlap : zoneCheck [zoneA, zoneB] [] 0 ⟨5000, 10500, 0⟩ = ⟨⟨5000, 10600, 0⟩, true, true⟩ := by
  decide +kernel

/-- Section 5.11.1. -/
theorem test_colour : colourPipeline example1 ⟨40000, 30000, 20000, 128⟩ 49152 false =
    { red := 22500, green := 14250, blue := 7125, white := some 8191, gamut := false } := by decide +kernel

/-- Sections 1.6.1 and 5.11.1: the slots of the footprint. -/
theorem test_footprint : footprintValues example1 example1.defaults ⟨32768, -6712⟩
    (colourPipeline example1 ⟨40000, 30000, 20000, 128⟩ 49152 false) = [213, 85, 93, 10, 0, 87, 228, 55, 170, 28, 32, 255] := by
  decide +kernel

/-- Section 9.7.2: check slot SUM with the start code. -/
theorem test_check_slot :
    let f : Frame :=
      { length := 24, startCode := 23, check := .sum, includeStart := true
        values := [213, 85, 93, 10] ++ List.replicate 20 0, startUs := 0 }
    f.checkValue = some 168 := by decide +kernel

/-- Section 8.4, expiries 4 and 6. -/
theorem test_stick : integrateAxis 30 3048 2048 20 5000 35 4 = 35 ∧ integrateAxis 35 1048 2048 20 5000 35 4 = 25 := by
  decide +kernel

/-- Section 11.4.1. -/
theorem test_jump_notice : (Notice.jump 9000080 9060040).kindByte = 0x44 ∧
    (Notice.jump 9000080 9060040).detailBytes = [0x4A, 0xA4, 0x80, 0x8A, 0x3E, 0xC8] := by decide +kernel

/-! ### One result for each command -/

theorem test_power_on : (after State.reset (.powerOn 4)).sli.unitAddress = 5 := by decide +kernel

theorem test_reset_pin : (after State.reset (.resetPin 15)).sli.unitAddress = 16 := by decide +kernel

/-- Table 28, second row: a frame of three bytes is short. -/
theorem test_frame_received : (after State.reset (.frameReceived [0xC5, 5, 1, 7, 0xC5])).rqd.stats.shortFrames = 1 := by
  decide +kernel

/-- Table 28, fourth row: an escaped tag, handed over. -/
theorem test_frame_escape :
    (after State.reset (.frameReceived (wireFrame (withCrc [1, 1, 0xC5])))).rqd.inProgress =
      some { kind := 1, request := { broadcast := false, tag := 0xC5, payload := [] } } := by decide +kernel

theorem test_frame_abandoned :
    (after (State.reset.setReceiver (.collect [1, 2] false false)) .frameAbandoned).rqd.stats.shortFrames = 1 := by decide +kernel

/-- A reply of one status byte is 8 bytes on the wire here: 40 µs. -/
theorem test_reply_sent : (after (after (ask 0x06 []) (.clearShow (uni []))) .replySent).sli.replies = [] := by decide +kernel

theorem test_unknown_kind : replies (after (ask 0x60 []) (.unknownKind 0x60 (uni []))) = [[2]] := by decide +kernel

theorem test_unit_query : replies (after (ask 0x01 []) (.unitQuery (uni []))) = [[0, 1, 1, 0, 1]] := by decide +kernel

theorem test_notice_poll :
    replies (after (ask 0x02 []) (.noticePoll (uni []))) = [[0, 1, 0, 0, 0, 0x0B, 0, 0, 0, 0, 0, 0, 0, 0, 0, 0]] := by
  decide +kernel

theorem test_stats : (replies (after (ask 0x03 [1]) (.stats (uni [1])))).map List.length = [117] := by decide +kernel

theorem test_save : (after (ask 0x04 []) (.save (uni []))).ims.saving.isSome = true := by decide +kernel

theorem test_save_completion :
    (after { State.reset with ims := { State.reset.ims with saving := some [1] } } (.saveCompletion false)).rqd.notices.map
      NoticeRecord.notice = [.imageInvalid, .saveFailed] := by decide +kernel

theorem test_restart_length : replies (after (ask 0x05 [9]) (.restart (uni [9]))) = [[3]] := by decide +kernel

theorem test_clear_show :
    (after (begun stage 0x06 (uni [])) (.clearShow (uni []))).fixture? 5 = none := by decide +kernel

theorem test_profile_load :
    (after (ask 0x10 (3 :: profileBytes)) (.profileLoad (uni (3 :: profileBytes)))).fxe.profiles[3] = some example1 := by
  decide +kernel

/-- A profile in use cannot be removed. -/
theorem test_profile_remove : replies (after (begun stage 0x11 (uni [0])) (.profileRemove (uni [0]))) = [[8]] := by
  decide +kernel

theorem test_profile_read : replies (after (begun stage 0x12 (uni [0])) (.profileRead (uni [0]))) = [0 :: profileBytes] := by
  decide +kernel

/-- A second footprint on slots 101 to 112 overlaps. -/
theorem test_fixture_define :
    replies (after (begun stage 0x13 (uni (6 :: configBytes))) (.fixtureDefine (uni (6 :: configBytes)))) = [[7]] := by
  decide +kernel

/-- Redefined, fixture 5 puts its static slot value 255 of offset 11 into slot 112. -/
theorem test_fixture_redefine :
    ((after (begun stage 0x13 (uni (5 :: configBytes))) (.fixtureDefine (uni (5 :: configBytes)))).lnu[0]).next[111] = 255 := by
  decide +kernel

theorem test_fixture_remove :
    (after (begun stage 0x14 (uni [5])) (.fixtureRemove (uni [5]))).fixture? 5 = none := by decide +kernel

/-- Offset 10 is mapped, offset 11 is not: only the latter goes into the next image at once. -/
theorem test_fixture_slots :
    let t := after (begun stage 0x15 (uni [5, 10, 2, 9, 8])) (.fixtureSlots (uni [5, 10, 2, 9, 8]))
    (t.lnu[0]).next[110] = 0 ∧ (t.lnu[0]).next[111] = 8 := by decide +kernel

theorem test_fixture_read :
    replies (after (begun stage 0x16 (uni [5])) (.fixtureRead (uni [5]))) =
      [0 :: configBytes ++ [1, 0, 0, 0, 12, 0, 0, 0, 0, 0, 0, 0, 0, 0, 0, 0, 255]] := by decide +kernel

/-- Fixture 5 is bit 5 of the member map; group 31 is the top bit of the group set. -/
theorem test_group_set :
    let p : List Byte := 31 :: 32 :: List.replicate 15 0
    ((after (begun stage 0x17 (uni p)) (.groupSet (uni p))).fixture? 5).map Fixture.groups = some 0x80000001#32 := by
  decide +kernel

theorem test_group_read :
    replies (after (begun stage 0x18 (uni [0])) (.groupRead (uni [0]))) = [0 :: 32 :: List.replicate 15 0] := by decide +kernel

theorem test_zone_set :
    (after (ask 0x19 (15 :: zoneA.bytes)) (.zoneSet (uni (15 :: zoneA.bytes)))).fxe.zones[15] = zoneA := by decide +kernel

theorem test_zone_read : (replies (after (ask 0x1A [0]) (.zoneRead (uni [0])))).map List.length = [31] := by decide +kernel

def aimPayload : List Byte := [0, 5, 1] ++ be32i 9000 ++ be32i 0 ++ be32i 0 ++ be32 1000 ++ [0]

/-- Section 2.3.1: from angles to a point in angle space. -/
theorem test_aim :
    ((after (begun stage 0x20 (uni aimPayload)) (.aim (uni aimPayload))).fixture? 5).map
      (fun f => (f.run.aim.core.toValue, f.run.aim.space)) = some (.angles ⟨0, 6712⟩, .angleSpace) := by decide +kernel

def tintPayload : List Byte := [2, 99] ++ be16 1 ++ be16 2 ++ be16 3 ++ [1] ++ be16 9 ++ be32 0 ++ [0]

/-- An absent wmix takes the default 128 of the profile. -/
theorem test_tint :
    ((after (begun stage 0x21 (uni tintPayload)) (.tint (uni tintPayload))).fixture? 5).map
      (fun f => f.run.colour.toValue) = some ⟨1, 2, 3, 128⟩ := by decide +kernel

def levelPayload : List Byte := [1, 0] ++ be16 65535 ++ be32 700000 ++ [1]

/-- A fade above 600,000 ms is used as 600,000. -/
theorem test_level :
    ((after (begun stage 0x22 (uni levelPayload)) (.level (uni levelPayload))).fixture? 5).map
      (fun f => (f.run.level.toValue, f.run.level.duration, f.run.level.shape)) = some (65535, 600000, .ease) := by
  decide +kernel

theorem test_fixture_query :
    (replies (after (begun stage 0x23 (uni [5])) (.fixtureQuery (uni [5])))).map List.length = [117] := by decide +kernel

/-- A fixture that moves, with both axes at speed. -/
def moving : Fixture := { fixture1 with run := { fixture1.run with velocity := ⟨100, -20⟩, commanded := ⟨30, 40⟩ } }

theorem test_park :
    ((after (begun stage 0x28 (uni [0, 5])) (.park (uni [0, 5]))).fixture? 5).map (fun f => f.run.parked) = some true := by
  decide +kernel

theorem test_stop :
    ((after (begun (stageOf moving) 0x29 (uni [0, 5])) (.stop (uni [0, 5]))).fixture? 5).map
      (fun f => (f.run.stopped, f.run.velocity)) = some (some ⟨30, 40⟩, ⟨0, 0⟩) := by decide +kernel

theorem test_douse : replies (after (begun stage 0x2A (uni [0, 6])) (.douse (uni [0, 6]))) = [[5]] := by decide +kernel

theorem test_release :
    ((after (begun (stageOf { fixture1 with run := { fixture1.run with parked := true, doused := true } }) 0x2B (uni [2, 0, 2]))
      (.release (uni [2, 0, 2]))).fixture? 5).map (fun f => (f.run.parked, f.run.doused)) = some (true, false) := by
  decide +kernel

def levelPart : PartRecord :=
  { selKind := 0, selNumber := 5, attributes := 16, a := 0, b := 0, c := 0, red := 0, green := 0, blue := 0, wmix := 0
    level := 100, fade := 0, delay := 0, shape := 0 }

/-- A stage with a READY cue 5 of one part. -/
def cueStage : State :=
  { stage with pbu := { stage.pbu with
      cues := stage.pbu.cues.set 5 { state := .ready, declared := 1, parts := [levelPart] }, poolFree := 1023 } }

theorem test_go : replies (after (begun cueStage 0x2C (uni [5])) (.go (uni [5]))) = [[0, 0, 1, 0, 0]] := by decide +kernel

/-- Section 6.5.1: the rebuild frees the old parts. -/
theorem test_cue_open :
    replies (after (begun cueStage 0x30 (uni [5, 2])) (.cueOpen (uni [5, 2]))) = [[0, 0xFF, 4, 0]] := by decide +kernel

/-- A stage with cue 5 OPEN for two parts. -/
def buildStage : State :=
  { stage with pbu := { stage.pbu with
      cues := stage.pbu.cues.set 5 { state := .opened, declared := 2, parts := [levelPart] }, poolFree := 1023
      openBuild := some { cue := 5, declared := 2, received := 1 } } }

theorem test_cue_part :
    replies (after (begun buildStage 0x31 (uni ([5, 1] ++ levelPart.bytes))) (.cuePart (uni ([5, 1] ++ levelPart.bytes)))) =
      [[0, 2, 2, 3, 254]] := by decide +kernel

theorem test_cue_delete :
    (after (begun buildStage 0x32 (uni [5])) (.cueDelete (uni [5]))).pbu.openBuild = none := by decide +kernel

theorem test_cue_read :
    replies (after (begun cueStage 0x33 (uni [5, 0])) (.cueRead (uni [5, 0]))) = [[0, 2, 1, 1, 3, 255] ++ levelPart.bytes] := by
  decide +kernel

theorem test_show_time :
    (after (ask 0x38 (be32 1000 ++ [1])) (.showTime (uni (be32 1000 ++ [1])))).rqd.notices.map NoticeRecord.notice =
      [.imageInvalid, .jump 0 1000, .run true] := by decide +kernel

theorem test_clock_set :
    (after (ask 0x39 [8, 33, 1, 244]) (.clockSet (uni [8, 33, 1, 244]))).scu.waiting = some 8 := by decide +kernel

theorem test_clock_query : (replies (after (ask 0x3A []) (.clockQuery (uni [])))).map List.length = [23] := by decide +kernel

theorem test_timeline_add :
    (after (ask 0x3B (be32 0 ++ [7])) (.timelineAdd (uni (be32 0 ++ [7])))).pbu.cursor = 1 := by decide +kernel

theorem test_timeline_remove :
    replies (after (ask 0x3C (be32 0 ++ [7])) (.timelineRemove (uni (be32 0 ++ [7])))) = [[5]] := by decide +kernel

theorem test_timeline_read : replies (after (ask 0x3D [0]) (.timelineRead (uni [0]))) = [[0, 0, 0, 0, 0, 0]] := by decide +kernel

theorem test_track_bind :
    replies (after (begun stage 0x40 (uni [0, 0])) (.trackBind (uni [0, 0]))) = [[0, 1]] := by decide +kernel

/-- A stage whose track 0 is WAITING. -/
def trackStage : State := { stage with tku := stage.tku.set 0 { Track.unbound with state := .waiting } }

def onePoint : List Byte := [0, 1] ++ be32i 2000 ++ be32i 2000 ++ be32i 0 ++ be16 40 ++ [1]

theorem test_track_points :
    ((after (begun trackStage 0x41 (uni onePoint)) (.trackPoints (uni onePoint))).tku[0]).queue =
      [{ point := ⟨2000, 2000, 0⟩, due := 40, last := true }] := by decide +kernel

theorem test_track_release :
    ((after (begun trackStage 0x42 (uni [0])) (.trackRelease (uni [0]))).tku[0]).state = .unbound := by decide +kernel

theorem test_track_query :
    (replies (after (begun trackStage 0x43 (uni [0])) (.trackQuery (uni [0])))).map List.length = [30] := by decide +kernel

def stickPayload : List Byte := [0, 4, 0] ++ be16 20 ++ be16 5000 ++ be16 35

theorem test_stick_set :
    ((after (ask 0x48 stickPayload) (.stickSet (uni stickPayload))).sku.sticks[0]).gain = 5000 := by decide +kernel

/-- A rail reading is NOT-READY, with the readings. -/
theorem test_stick_centre :
    replies (after (ask 0x49 [0]) (.stickCentre (uni [0]) { rest with x0 := 4079 })) = [[10, 15, 239, 8, 0]] := by decide +kernel

theorem test_stick_zero : replies (after (ask 0x4A [1]) (.stickZero (uni [1]))) = [[0]] := by decide +kernel

theorem test_stick_sample :
    replies (after (ask 0x4B [1]) (.stickSample (uni [1]) { rest with y1 := 16 })) = [[0, 8, 0, 0, 16, 0, 1]] := by decide +kernel

theorem test_stick_query : (replies (after (ask 0x4C [1]) (.stickQuery (uni [1])))).map List.length = [27] := by decide +kernel

def linePayload : List Byte := [0, 1] ++ be16 24 ++ [0, 0, 0] ++ be16 23

theorem test_line_set : replies (after (ask 0x50 linePayload) (.lineSet (uni linePayload))) = [[0, 1]] := by decide +kernel

theorem test_line_pin : ((after (ask 0x51 [7, 1]) (.linePin (uni [7, 1]))).lnu[7]).pinHigh = true := by decide +kernel

/-- Slot 112 belongs to fixture 5, slot 113 to nobody. -/
theorem test_line_static :
    let p : List Byte := [0, 0, 112, 2, 9, 8]
    let l := (after (begun stage 0x52 (uni p)) (.lineStatic (uni p))).lnu[0]
    l.statics[111] = 9 ∧ l.next[111] = 0 ∧ l.next[112] = 8 := by decide +kernel

theorem test_line_query : (replies (after (ask 0x53 [0]) (.lineQuery (uni [0])))).map List.length = [22] := by decide +kernel

theorem test_line_image :
    replies (after (ask 0x54 [0, 2, 0, 1, 0]) (.lineImage (uni [0, 2, 0, 1, 0]))) = [[0, 0]] := by decide +kernel

theorem test_step_expiry : (after State.reset (.stepExpiry rest 0)).scu.nextExpiry = 8 := by decide +kernel

/-- A pass with no fixture defined completes at once (R35). -/
theorem test_empty_pass : (after State.reset (.stepExpiry rest 3)).fxe.pass = none := by decide +kernel

/-- The stage at an expiry of local time 4. -/
def passStage (f : Fixture) : State :=
  (stageOf f).setPass (some { localTime := 4, showTime := 0, period := 4, nextFixture := 0, sampling := none })

/-- A PARKED fixture at park shows its park level in its colour: 20000 of white, full colour at wmix 128. -/
theorem test_fixture_evaluation :
    ((after (passStage { fixture1 with run := { fixture1.run with parked := true } }) .fixtureEvaluation).fixture? 5).map
      (fun f => (f.run.desired, f.run.lag)) = some (⟨0, 0⟩, false) := by decide +kernel

theorem test_pass_completion :
    (after (State.reset.setPass (some ⟨4, 0, 4, 0, none⟩)) .passCompletion).fxe.pass = none := by decide +kernel

/-- Section 7.7.1, first row. -/
theorem test_mark_received :
    ((after { State.reset with scu := { State.reset.scu with timeUs := 1003000 } }
      (.markReceived [0xA7, 1, 0, 0x36, 0xEE, 0x80, 0x5B])).scu.lock) =
        .confirm { time := 3600000, run := true, arrival := 1003 } 1123 := by decide +kernel

theorem test_mark_abandoned :
    (after (State.reset.setMarkReceiver (.collecting [1] 0)) .markAbandoned).rqd.stats.badMarks = 1 := by decide +kernel

def mark1 : Mark := { time := 0, run := true, arrival := 0 }

theorem test_confirm_deadline :
    (after (State.reset.setLock (.confirm mark1 120)) .confirmDeadline).scu.lock = .search := by decide +kernel

/-- The third missing mark ends the lock. -/
theorem test_watch_deadline :
    (after (State.reset.setLock (.locked mark1 2 120 none none)) .watchDeadline).scu.lock = .holdover := by decide +kernel

/-- Section 9.7.1: frames of minimum interval 23 ms. -/
theorem test_frame_start :
    let l : Line := { Line.default with mode := .frame, armed := .frame, lastStart := some 100000 }
    (after { State.reset with lnu := State.reset.lnu.set 2 l } (.frameStart 2)).scu.timeUs = 123000 := by decide +kernel

/-- Section 9.7.1: the frame of 100.000 ms ends at 122.684 ms. -/
theorem test_frame_sent :
    let l : Line := { Line.default with mode := .frame, armed := .frame }
    (after { State.reset with lnu := State.reset.lnu.set 2 (l.started 100000) } (.frameSent 2)).scu.timeUs = 122684 := by
  decide +kernel

theorem test_fault_asserted :
    ((after stage (.faultInputAsserted 0)).lnu[0]).mode = .fault := by decide +kernel

theorem test_fault_released :
    ((after (after stage (.faultInputAsserted 0)) (.faultInputReleased 0)).lnu[0]).mode = .fault := by decide +kernel

/-! ### Hypotheses that are met: the machine, start-up and the show image -/

theorem witness_stepRunsFrontCommand :
    (State.reset.withPending [.replySent, .frameAbandoned]).pending = .replySent :: [.frameAbandoned] := rfl

theorem witness_idleStep : State.reset.pending = [] ∧ ∀ e ∈ State.reset.ownEvents, State.reset.scu.timeUs < e.due := by
  decide +kernel

/-- The state after reset at the expiry of its step timer, with a pass to complete before it. -/
def dueStage : State := (State.reset.setPass (some ⟨4, 0, 4, 0, none⟩)).advanceTo 4000

/-- Events that are due: the first of two due together, and one behind an event that is later. -/
theorem witness_idleStep_event : dueStage.pending = [] ∧
    dueStage.ownEvents = [] ++ ⟨4000, .passCompletion⟩ :: [⟨4000, .stepExpiry rest 0⟩] ∧ dueStage.scu.timeUs = 4000 ∧
    ((State.reset.advanceTo 4000).setLock (.confirm { time := 0, run := true, arrival := 0 } 120)).ownEvents =
      [⟨120000, .confirmDeadline⟩] ++ ⟨4000, .stepExpiry rest 0⟩ :: [] := by decide +kernel

theorem witness_startUpWithoutImage : validBody State.reset.ims.flash = none := by decide +kernel

theorem witness_startUpLoadsImage : validBody (imageOf [7]) = some [7] := by decide +kernel

/-- Fixture 5 covers the slots 101 to 112 of line 0, and no other. -/
theorem witness_imagesRebuilt : stage.fixture? 5 = some fixture1 ∧ fixture1.config.line = 0 ∧
    covers fixture1.config.start fixture1.statics.length 100 = true ∧
    covers fixture1.config.start fixture1.statics.length 111 = true ∧
    covers fixture1.config.start fixture1.statics.length 99 = false ∧
    covers fixture1.config.start fixture1.statics.length 112 = false :=
  ⟨stage_fixture_5, by decide +kernel, by decide +kernel, by decide +kernel, by decide +kernel, by decide +kernel⟩

theorem witness_imageBodyRoundTrip : State.reset.tables.fits := by
  have hp : ∀ i : Fin 16, State.reset.tables.profiles[i] = none := by decide +kernel
  have hf : ∀ i : Fin 128, State.reset.tables.fixtures[i] = none := by decide +kernel
  have hc : ∀ i : Fin 96, State.reset.tables.cues[i] = none := by decide +kernel
  refine ⟨?_, ?_, by unfold Window.fits fits32; decide +kernel, by decide +kernel, by decide +kernel, by decide +kernel,
    by decide +kernel, by decide +kernel, ?_, by decide +kernel, ?_⟩
  · intro i p h; rw [hp i] at h; cases h
  · intro i p h; rw [hf i] at h; cases h
  · intro i c h; rw [hc i] at h; cases h
  · intro e h; cases h

theorem reset_body_length : State.reset.tables.body.length ≤ 262144 := by
  simp only [ShowImage.body, List.length_append, List.length_flatMap]
  decide +kernel

theorem witness_savedShow : (ask 0x04 []).serving 0x04 (uni []) ∧ (uni []).payload = [] ∧ (ask 0x04 []).ims.saving = none ∧
    (ask 0x04 []).tables.fits ∧ (ask 0x04 []).tables.body.length ≤ 262144 :=
  ⟨rfl, rfl, rfl, witness_imageBodyRoundTrip, reset_body_length⟩

/-- A state whose save is in progress. -/
def savingState : State := { State.reset with ims := { State.reset.ims with saving := some (imageOf [7]) } }

theorem witness_save_completes : savingState.ims.saving = some (imageOf [7]) ∧ State.reset.ims.saving = none := ⟨rfl, rfl⟩

/-- A RESTART in progress while a unicast waits in each lane and a broadcast in the normal lane. -/
def restartStage : State :=
  { ask 0x05 [] with rqd := { (ask 0x05 []).rqd with
      normal := [{ kind := 0x01, request := uni [] }, { kind := 0x02, request := { (uni []) with broadcast := true } }]
      urgent := [{ kind := 0x28, request := uni [2, 0] }] } }

theorem witness_restart : restartStage.serving 0x05 (uni []) ∧ (uni []).payload = [] ∧ restartStage.ims.saving = none :=
  ⟨rfl, rfl, rfl⟩

/-- A RESTART in progress while cue 5 is being built and line 0, armed, has its fault input asserted. -/
def restartFaults : State :=
  { begun buildStage 0x05 (uni []) with
    lnu := buildStage.lnu.set 0 { buildStage.lnu[0] with faultInput := true, framesSent := 9 } }

theorem restart_poolOk : restartFaults.poolOk := by
  unfold State.poolOk
  decide +kernel

theorem witness_restart_faults : restartFaults.serving 0x05 (uni []) ∧ restartFaults.ims.saving = none ∧ restartFaults.poolOk ∧
    (restartFaults.lnu[(0 : Fin 8)]).faultInput = true ∧ (restartFaults.lnu[(0 : Fin 8)]).armed ≠ .off ∧
    (restartFaults.lnu[(7 : Fin 8)]).faultInput = false ∧ (restartFaults.cueOf 5).state = .opened :=
  ⟨rfl, rfl, restart_poolOk, by decide +kernel, by decide +kernel, by decide +kernel, by decide +kernel⟩

/-- R158, R182 and R184: after a RESTART the notices are the line faults of it, and its line counters count them alone. -/
theorem test_restart_faults :
    let t := after restartFaults (.restart (uni []))
    t.rqd.notices = [⟨0, .lineFault 0⟩] ∧ (t.lnu[0]).faults = 1 ∧ (t.lnu[0]).framesSent = 0 ∧
      t.pbu.poolFree = 1024 := by decide +kernel

theorem witness_clearShow : (begun stage 0x06 (uni [])).serving 0x06 (uni []) ∧ (uni []).payload = [] ∧
    (begun stage 0x06 (uni [])).ims.saving = none := ⟨rfl, rfl, rfl⟩

/-! ### The show link -/

theorem witness_frameTravels : State.reset.sli.receiver = .hunt ∧ (List.replicate 240 (0xC5 : Byte)).length ≤ 240 ∧
    ((1 : Byte) = 0 ∨ (1 : Byte) = State.reset.sli.unitAddress) ∧ ((0 : Byte) = 0 ∨ (0 : Byte) = State.reset.sli.unitAddress) ∧
    (State.reset.setReceiver (.collect [] false false)).sli.receiver = .collect [] false false := by decide +kernel

/-- The state after reset with the receiver collecting. -/
def collecting (buffer : List Byte) (escaped overlong : Bool) : State :=
  State.reset.setReceiver (.collect buffer escaped overlong)

theorem witness_delimiter : (collecting [1] true false).sli.receiver = .collect [1] true false ∧
    (collecting [] false false).sli.receiver = .collect [] false false ∧
    (collecting (List.replicate 245 0) false true).sli.receiver = .collect (List.replicate 245 0) false true := ⟨rfl, rfl, rfl⟩

theorem witness_delimiter_lengths : 1 ≤ [(1 : Byte)].length ∧ [(1 : Byte), 2, 3, 4].length ≤ 4 ∧ 5 ≤ [(1 : Byte), 2, 3, 4, 5].length ∧
    crc16 [(1 : Byte), 2, 3, 4, 5] ≠ 0 := by decide +kernel

theorem witness_delimiter_address : 5 ≤ (withCrc [2, 1, 7]).length ∧ crc16 (withCrc [2, 1, 7]) = 0 ∧
    (withCrc [2, 1, 7]).getD 0 0 ≠ 0 ∧ (withCrc [2, 1, 7]).getD 0 0 ≠ State.reset.sli.unitAddress := by decide +kernel

theorem witness_brokenFrames : State.reset.sli.receiver = .hunt ∧ (∀ b ∈ List.replicate 246 (1 : Byte), b ≠ 0xC5) ∧
    (collecting [] false false).sli.receiver = .collect [] false false ∧ 245 < (List.replicate 246 (0xC5 : Byte)).length := by
  decide +kernel

/-- A state whose normal lane holds `n` unicasts and whose urgent lane holds `m`, with one in progress. -/
def lanes (n m : Nat) : State :=
  { ask 0x05 [] with rqd := { (ask 0x05 []).rqd with
      normal := List.replicate n ⟨0x22, uni []⟩, urgent := List.replicate m ⟨0x2C, uni []⟩ } }

/-- `lanes` with `k` replies built. -/
def lanesReplies (n m k : Nat) : State :=
  { lanes n m with sli := { State.reset.sli with replies := List.replicate k ⟨1, 7, [0]⟩ } }

theorem witness_lane_waits : (lanes 7 0).rqd.inProgress = some ⟨0x05, uni []⟩ ∧
    (⟨0x05, uni []⟩ : LinkRequest) ≠ ⟨0x22, uni []⟩ ∧ (lanes 7 0).placesHeld < 16 ∧ (lanes 7 0).rqd.normal.length < 8 ∧
    (lanes 7 3).placesHeld < 16 ∧ (lanes 7 3).rqd.urgent.length < 4 := by decide +kernel

theorem witness_lane_full : (lanes 8 4).rqd.inProgress = some ⟨0x05, uni []⟩ ∧ (lanes 8 4).placesHeld < 16 ∧
    ¬ (lanes 8 4).rqd.normal.length < 8 ∧ ¬ (lanes 8 4).rqd.urgent.length < 4 := by decide +kernel

theorem witness_lane_noPlace : (lanesReplies 8 0 7).rqd.inProgress = some ⟨0x05, uni []⟩ ∧ 16 ≤ (lanesReplies 8 0 7).placesHeld := by
  decide +kernel

theorem witness_reply : (lanesReplies 0 0 2).sli.replies = ⟨1, 7, [0]⟩ :: [⟨1, 7, [0]⟩] ∧ State.reset.sli.replies = [] :=
  ⟨rfl, rfl⟩

theorem witness_commonChecks : (ask 0x60 []).serving 0x60 (uni []) ∧ isKnownKind 0x60 = false ∧
    (ask 0x20 []).serving 0x20 (uni []) ∧ isKnownKind 0x20 = true ∧ payloadLengthOk 0x20 [] = false :=
  ⟨rfl, by decide, rfl, by decide, by decide⟩

theorem witness_commonChecks_saving : (begun savingState 0x04 (uni [])).serving 0x04 (uni []) ∧ 0x04 ∈ savingKinds ∧
    payloadLengthOk 0x04 [] = true ∧ (begun savingState 0x04 (uni [])).ims.saving.isSome = true :=
  ⟨rfl, by decide, by decide, rfl⟩

theorem witness_linkStaysBounded : ∃ t, (begun stage 0x01 (uni [])).linkBounded ∧ (begun stage 0x01 (uni [])).serviceOk ∧
    step ((begun stage 0x01 (uni [])).withPending [.frameAbandoned]) = .next t :=
  ⟨_, by unfold State.linkBounded; decide +kernel, by unfold State.serviceOk; decide +kernel, rfl⟩

/-- A state whose notice queue holds `n` notices. -/
def noticed (n : Nat) : State :=
  { State.reset with rqd := { State.reset.rqd with notices := List.replicate n ⟨0, .saveDone⟩ } }

theorem witness_notices : (noticed 31).rqd.notices.length < 32 ∧ 32 ≤ (noticed 32).rqd.notices.length ∧
    (noticed 32).rqd.lost < 65535 ∧ { (noticed 32).rqd with lost := 65535 }.lost = 65535 := by decide +kernel

theorem witness_poll : (begun (noticed 32) 0x02 (uni [])).serving 0x02 (uni []) ∧ (uni []).broadcast = false ∧
    (begun (noticed 32) 0x02 { uni [] with broadcast := true }).serving 0x02 { uni [] with broadcast := true } ∧
    (ask 0x03 [0]).serving 0x03 (uni [0]) ∧ (ask 0x03 [1]).serving 0x03 (uni [1]) := ⟨rfl, rfl, rfl, rfl, rfl⟩

theorem witness_reads_fxe : (begun stage 0x12 (uni [byteOf 0])).serving 0x12 (uni [byteOf 0]) ∧
    (begun stage 0x12 (uni [0])).fxe.profiles[(0 : Fin 16)] = some example1 ∧
    (begun stage 0x16 (uni [byteOf 5])).serving 0x16 (uni [byteOf 5]) ∧ stage.fixture? 5 = some fixture1 ∧
    (begun stage 0x18 (uni [byteOf 31])).serving 0x18 (uni [byteOf 31]) ∧
    (begun stage 0x1A (uni [byteOf 15])).serving 0x1A (uni [byteOf 15]) ∧
    (begun stage 0x23 (uni [byteOf 5])).serving 0x23 (uni [byteOf 5]) :=
  ⟨rfl, by decide +kernel, rfl, stage_fixture_5, rfl, rfl, rfl⟩

theorem witness_reads_others : (ask 0x01 []).serving 0x01 (uni []) ∧ (ask 0x33 [byteOf 95, 63]).serving 0x33 (uni [byteOf 95, 63]) ∧
    (63 : Byte).toNat ≤ 63 ∧ (ask 0x3A []).serving 0x3A (uni []) ∧ (ask 0x3D [255]).serving 0x3D (uni [255]) ∧
    (ask 0x43 [byteOf 3]).serving 0x43 (uni [byteOf 3]) ∧ (ask 0x4C [byteOf 1]).serving 0x4C (uni [byteOf 1]) ∧
    (ask 0x53 [byteOf 7]).serving 0x53 (uni [byteOf 7]) :=
  ⟨rfl, rfl, by decide, rfl, rfl, rfl, rfl, rfl⟩

theorem witness_reads_image :
    let p : List Byte := [byteOf 7] ++ be16 512 ++ [byteOf 1, boolByte true]
    (ask 0x54 p).serving 0x54 (uni p) ∧ 1 ≤ 512 ∧ 1 ≤ 1 ∧ 1 ≤ 200 ∧ 512 + 1 - 1 ≤ 512 :=
  ⟨rfl, by decide, by decide, by decide, by decide⟩

/-! ### Tables of the fixture engine -/

theorem witness_profileRemove : (begun stage 0x11 (uni [16])).serving 0x11 (uni [16]) ∧
    (begun stage 0x11 (uni [16])).ims.saving = none ∧ 15 < (16 : Byte).toNat ∧ (15 : Byte).toNat = (15 : Fin 16).val ∧
    stage.fxe.profiles[(15 : Fin 16)] = none := ⟨rfl, rfl, by decide, rfl, by decide +kernel⟩

theorem witness_profileRemove_inUse : (stage.fxe.profiles[(0 : Fin 16)]).isSome = true ∧
    ∃ i f, stage.fixture? i = some f ∧ f.config.profile = 0 :=
  ⟨by decide +kernel, 5, fixture1, stage_fixture_5, by decide +kernel⟩

/-- A stage with a second profile, 15, that no fixture names. -/
def spareStage : State :=
  { stage with fxe := { stage.fxe with profiles := stage.fxe.profiles.set 15 (some example1) } }

theorem spare_unused : ∀ i f, spareStage.fixture? i = some f → f.config.profile ≠ 15 := by
  intro i f h
  by_cases hi : i = 5
  · subst hi
    have h5 : spareStage.fixture? 5 = some fixture1 := stage_fixture_5
    rw [h5] at h
    cases h
    decide +kernel
  · have hn : spareStage.fixture? i = none := stage_fixture i hi
    rw [hn] at h
    cases h

theorem witness_profileRemove_done : (spareStage.fxe.profiles[(15 : Fin 16)]).isSome = true ∧
    ∀ i f, spareStage.fixture? i = some f → f.config.profile ≠ 15 := ⟨by decide +kernel, spare_unused⟩

theorem witness_profileLoad :
    (begun spareStage 0x10 (uni (15 :: profileBytes))).serving 0x10 (uni (15 :: profileBytes)) ∧
    (∀ i f, spareStage.fixture? i = some f → f.config.profile ≠ 15) ∧
    u8 (15 :: profileBytes) 0 = 15 ∧ profileAccepted (15 :: profileBytes) := by
  refine ⟨rfl, spare_unused, by decide, ?_⟩
  have hw : ∀ w, (profileOf ((15 :: profileBytes).drop 1)).whiteVector = some w → 1 ≤ w.r ∧ 1 ≤ w.g ∧ 1 ≤ w.b := by
    intro w h
    have hv : (profileOf ((15 :: profileBytes).drop 1)).whiteVector = some ⟨60000, 60000, 60000⟩ := by decide +kernel
    rw [hv] at h
    cases h
    decide
  refine ⟨by decide +kernel, by decide +kernel, by decide +kernel, by decide +kernel, by decide +kernel, by decide +kernel,
    ?_, ?_, by decide +kernel, by decide +kernel, hw, by decide +kernel, by decide +kernel⟩ <;>
  · unfold Window.isRange
    decide +kernel

theorem witness_groupSet : (begun stage 0x17 (uni (31 :: 32 :: List.replicate 15 0))).serving 0x17 (uni (31 :: 32 :: List.replicate 15 0)) ∧
    (uni (31 :: 32 :: List.replicate 15 0)).payload.length = 17 ∧ u8 (31 :: 32 :: List.replicate 15 0) 0 = (31 : Fin 32).val ∧
    ∀ i : Fin 128, (mapField (31 :: 32 :: List.replicate 15 0) 1 16).testBit i.val = true → (stage.fixture? i).isSome = true :=
  ⟨rfl, by decide, by decide, by decide +kernel⟩

theorem witness_zoneSet : (ask 0x19 (byteOf 15 :: zoneA.bytes)).serving 0x19 (uni (byteOf 15 :: zoneA.bytes)) ∧
    (∀ w ∈ [zoneA.x, zoneA.y, zoneA.z], w.lo ≤ w.hi) ∧ Point.inStage ⟨zoneA.x.lo, zoneA.y.lo, zoneA.z.lo⟩ ∧
    Point.inStage ⟨zoneA.x.hi, zoneA.y.hi, zoneA.z.hi⟩ :=
  ⟨rfl, by decide +kernel, by unfold Point.inStage; decide +kernel, by unfold Point.inStage; decide +kernel⟩

theorem stage_disjoint : ∀ j g, j ≠ 5 → stage.fixture? j = some g → g.config.line = config1.line →
    disjointSlots config1.start example1.footprint g.config.start (stage.footprint g.config) := by
  intro j g hj h
  rw [stage_fixture j hj] at h
  cases h

/-- The hypotheses of FixtureDefineSetsUpFixture, for a fixture that is defined again at the end of its line. -/
theorem witness_fixtureDefine :
    let p := 5 :: configBytes
    let s := begun stage 0x13 (uni p)
    let c := configOf (p.drop 1)
    s.serving 0x13 (uni p) ∧ s.ims.saving = none ∧ p.length = 48 ∧ u8 p 0 = (5 : Fin 128).val ∧ u8 p 1 < 8 ∧ u8 p 4 < 16 ∧
    u8 p 17 < 2 ∧ 1 ≤ c.start ∧ c.start ≤ 512 ∧ c.mount.inStage ∧ -131072 ≤ c.yaw ∧ c.yaw ≤ 131072 ∧
    s.fxe.profiles[c.profile] = some example1 ∧ example1.defaults.length = example1.footprint ∧ (s.lnu[c.line]).mode = .frame ∧
    c.panWindow.inside example1.panRange ∧ c.tiltWindow.inside example1.tiltRange ∧ c.panWindow.holds c.park.pan ∧
    c.tiltWindow.holds c.park.tilt ∧
    c.start + example1.footprint - 1 ≤ (s.lnu[c.line]).length - (if (s.lnu[c.line]).check = .none then 0 else 1) ∧
    ∀ j g, j ≠ 5 → s.fixture? j = some g → g.config.line = c.line →
      disjointSlots c.start example1.footprint g.config.start (s.footprint g.config) := by
  refine ⟨rfl, rfl, by decide +kernel, by decide +kernel, by decide +kernel, by decide +kernel, by decide +kernel,
    by decide +kernel, by decide +kernel, ?_, by decide +kernel, by decide +kernel, by decide +kernel, by decide +kernel,
    by decide +kernel, ?_, ?_, ?_, ?_, by decide +kernel, stage_disjoint⟩
  · unfold Point.inStage; decide +kernel
  · unfold Window.inside; decide +kernel
  · unfold Window.inside; decide +kernel
  · unfold Window.holds; decide +kernel
  · unfold Window.holds; decide +kernel

theorem witness_fixtureRemove : (begun stage 0x14 (uni [byteOf 5])).serving 0x14 (uni [byteOf 5]) ∧
    stage.fixture? 5 = some fixture1 ∧ stage.ims.saving = none := ⟨rfl, stage_fixture_5, rfl⟩

theorem witness_fixtureSlots :
    let values : List Byte := [9, 8]
    let p := [byteOf 5, byteOf 10, byteOf values.length] ++ values
    (begun stage 0x15 (uni p)).serving 0x15 (uni p) ∧ 1 ≤ values.length ∧ values.length ≤ 48 ∧
    10 + values.length ≤ stage.footprint fixture1.config ∧ stage.footprint fixture1.config ≤ 48 ∧
    fixture1.statics.length = stage.footprint fixture1.config ∧ 1 ≤ fixture1.config.start :=
  ⟨rfl, by decide, by decide, by decide +kernel, by decide +kernel, by decide +kernel, by decide +kernel⟩

theorem stage_fixturesOk : stage.fixturesOk := by
  intro i f h
  by_cases hi : i = 5
  · subst hi
    rw [stage_fixture_5] at h
    cases h
    refine ⟨example1, by decide +kernel, ?_, ?_, ?_, ?_, ?_, ?_⟩
    · unfold Window.inside; decide +kernel
    · unfold Window.inside; decide +kernel
    all_goals unfold Window.holds; decide +kernel
  · rw [stage_fixture i hi] at h
    cases h

theorem witness_commandedAngles : ∃ t, (∀ c ∈ (stage.withPending [.frameAbandoned]).pending, c.loadsImage = false) ∧
    (stage.withPending [.frameAbandoned]).fixturesOk ∧ step (stage.withPending [.frameAbandoned]) = .next t :=
  ⟨_, by decide, stage_fixturesOk, rfl⟩

/-! ### Transitions, overrides and the pass -/

theorem witness_selector : selectorField aimPayload = some (.fixture 5) ∧ stage.isDefined 5 = true ∧
    selectorField tintPayload = some .all ∧ selectorField levelPayload = some (.group 0) := by decide +kernel

theorem witness_aim : (begun stage 0x20 (uni aimPayload)).serving 0x20 (uni aimPayload) ∧ aimPayload.length = 20 ∧
    aimField aimPayload 2 = some (.point ⟨9000, 0, 0⟩) ∧ u8 aimPayload 19 < 2 :=
  ⟨rfl, by decide, by decide +kernel, by decide⟩

theorem witness_tint : (begun stage 0x21 (uni tintPayload)).serving 0x21 (uni tintPayload) ∧ tintPayload.length = 16 ∧
    u8 tintPayload 8 < 2 ∧ u8 tintPayload 15 < 2 := ⟨rfl, by decide, by decide, by decide⟩

theorem witness_level : (begun stage 0x22 (uni levelPayload)).serving 0x22 (uni levelPayload) ∧ levelPayload.length = 9 ∧
    u8 levelPayload 8 < 2 := ⟨rfl, by decide, by decide⟩

theorem witness_aimSpaces : fixture1.run.aimPresent = .angles ⟨0, 0⟩ ∧
    { fixture1.run with aimPresent := .point ⟨1, 2, 3⟩ }.aimPresent = .point ⟨1, 2, 3⟩ ∧
    solve fixture1.config ⟨9000, 0, 0⟩ fixture1.run.desired.pan = some { angles := ⟨0, 6712⟩, fallback := false } := by
  decide +kernel

theorem witness_overrides : selectorField [0, 5] = some (.fixture 5) ∧ (begun stage 0x28 (uni [0, 5])).serving 0x28 (uni [0, 5]) ∧
    (begun stage 0x29 (uni [0, 5])).serving 0x29 (uni [0, 5]) ∧ (begun stage 0x2A (uni [0, 5])).serving 0x2A (uni [0, 5]) ∧
    (begun stage 0x2B (uni [0, 5, 3])).serving 0x2B (uni [0, 5, 3]) ∧ selectorField [0, 5, 3] = some (.fixture 5) ∧
    u8 [0, 5, 3] 2 = 3 := ⟨by decide, rfl, rfl, rfl, rfl, by decide, by decide⟩

theorem witness_fade : 0 < 1000 ∧ 500 ≤ 1000 ∧ 1000 = 2 * 500 := by decide

theorem witness_aimSolution : (-49152 : Int) ≤ 49152 ∧ (-24576 : Int) ≤ 24576 ∧
    (chooseSolution 0 6712 ⟨-49152, 49152⟩ ⟨-24576, 24576⟩ 30000).fallback = false ∧
    (chooseSolution 30000 32768 ⟨-49152, 49152⟩ ⟨-24576, 24576⟩ 30000).fallback = true := by decide +kernel

theorem witness_counts : (-49152 : Int) < 49152 ∧ Window.holds ⟨-49152, 49152⟩ (-49152) ∧ Window.holds ⟨-49152, 49152⟩ 49152 := by
  unfold Window.holds; decide

theorem witness_limiter : (-24576 : Int) ≤ 24576 ∧ Window.holds ⟨-24576, 24576⟩ 24576 ∧ (131 : Int).natAbs ≤ 131 ∧
    10 ∈ [2, 4, 5, 8, 10] ∧ 1048576 ≤ 1048576 ∧ 16777216 ≤ 16777216 := by
  unfold Window.holds; decide

theorem witness_zoneInside : zoneA.contains ⟨0, 12500, 0⟩ = true ∧ zoneA.contains ⟨0, 10000, 0⟩ = false ∧
    { zoneA with y := ⟨10000, 10000⟩ }.y.lo = { zoneA with y := ⟨10000, 10000⟩ }.y.hi := by decide +kernel

theorem witness_clampZone : zoneA.contains ⟨0, 12500, 0⟩ = true ∧ zoneA.applies 0 = true ∧ zoneA.mode = .clamp ∧
    { zoneA with enabled := false }.applies 0 = false ∧ { zoneA with mode := .blank }.mode = .blank := by decide +kernel

theorem witness_zoneCheck : (∀ z ∈ [{ zoneA with mode := .blank }], z.mode = .blank) ∧
    (∀ k ∈ [Stick.default], k.appliesTo 0xFFFFFFFF = false) ∧ { Stick.default with group := some 31 }.appliesTo 0x80000000 = true ∧
    (zoneCheck [] [] 0 ⟨1, 2, 3⟩).clamped = false := by decide +kernel

theorem witness_gamut : 65535 < max (0 : Int) 70000 ∧ max (0 : Int) 65535 ≤ 65535 := by decide

theorem witness_colour : (∀ w, example1.whiteVector = some w → ∀ v ∈ [w.r, w.g, w.b], 1 ≤ v ∧ v ≤ 65535) ∧
    65535 ≤ 65535 ∧ 256 ≤ 256 ∧ example1.curve = .linear ∧ example1.whiteVector = some ⟨60000, 60000, 60000⟩ ∧
    { example1 with whiteVector := none }.whiteVector = none := by
  refine ⟨?_, by decide, by decide, by decide +kernel, by decide +kernel, rfl⟩
  intro w h
  have hv : example1.whiteVector = some ⟨60000, 60000, 60000⟩ := by decide +kernel
  rw [hv] at h
  cases h
  decide

theorem witness_curve : 255 ≤ 255 ∧ 65535 ≤ 65535 := by decide

theorem witness_evaluation : (passStage fixture1).fxe.pass = some ⟨4, 0, 4, 0, none⟩ ∧
    (∀ x : Sampling, none = some x → (5 : Fin 128).val < x.before) ∧ 0 ≤ (5 : Fin 128).val ∧
    (passStage fixture1).fixture? 5 = some fixture1 ∧
    ∀ j : Fin 128, 0 ≤ j.val → j < 5 → (passStage fixture1).fixture? j = none := by
  refine ⟨rfl, (fun _ h => by cases h), by decide, stage_fixture_5, fun j _ h => stage_fixture j (Fin.ne_of_lt h)⟩

/-- The pass of `passStage`. -/
def pass4 : Pass := ⟨4, 0, 4, 0, none⟩

/-- A pending level of 300 due at a moment. -/
def pending300 (due : Moment) : Pending Nat := ⟨.direct, due, 300, 0, .linear⟩

/-- Fixtures whose evaluations take each of the ways to the desired angles and to the aim present value. -/
theorem witness_evaluation_cases :
    { fixture1.run with parked := true }.parked = true ∧ fixture1.run.parked = false ∧ fixture1.run.stopped = none ∧
    { fixture1.run with stopped := some ⟨1, 2⟩ }.stopped = some ⟨1, 2⟩ ∧
    ((after (passStage fixture1) .fixtureEvaluation).fixture? 5).map (fun g => g.run.aimPresent) = some (.angles ⟨0, 0⟩) ∧
    ((after (passStage (fixture1.startAim .direct (.onLocal 0) (.point ⟨9000, 0, 0⟩) 0 .linear)) .fixtureEvaluation).fixture? 5).map
      (fun g => g.run.aimPresent) = some (.point ⟨9000, 0, 0⟩) ∧
    (fixture1.bindTo 3 0).run.aim.core.toValue = .track 3 ∧ fixture1.run.aimPending = none := by decide +kernel

/-- A pending transition that is due, on either base, one that is not, and none. -/
theorem witness_promotion : pass4.promotes (some (pending300 (.onLocal 4))) = some (pending300 (.onLocal 4)) ∧
    pass4.promotes (some (pending300 (.onShow 0))) = some (pending300 (.onShow 0)) ∧
    pass4.promotes (some (pending300 (.onLocal 5))) = none ∧ pass4.promotes (none : Option (Pending Nat)) = none := by
  decide +kernel

/-- A blanking zone about the point 20 m over the stage, which the fixture of section 1.5.2, example 2, cannot reach. -/
def highZone : Zone := ⟨⟨-500, 500⟩, ⟨-500, 500⟩, ⟨19000, 21000⟩, .blank, true, 0⟩

/-- R19 and R75: BLANKED and REACH rise in one evaluation, and each raises its notice. -/
theorem test_evaluation_flags :
    let s := (passStage (fixture1.startAim .direct (.onLocal 0) (.point ⟨0, 0, 20000⟩) 0 .linear)).setZone 3 highZone
    (after s .fixtureEvaluation).rqd.notices.map NoticeRecord.notice =
      [.imageInvalid, .fixtureFlag 5 .blanked, .fixtureFlag 5 .reach] := by decide +kernel

theorem witness_passCompletion : State.reset.fxe.pass = none ∧
    (State.reset.setPass (some ⟨4, 0, 4, 128, none⟩)).fxe.pass = some ⟨4, 0, 4, 128, none⟩ ∧
    ∀ j : Fin 128, 128 ≤ j.val → (State.reset.setPass (some ⟨4, 0, 4, 128, none⟩)).fixture? j = none :=
  ⟨rfl, rfl, fun j _ => reset_fixture j⟩

/-- A track with `n` entries queued. -/
def queued (n : Nat) : Track :=
  { Track.unbound with
    state := .running, fromTime := some 0
    queue := (List.range n).map fun i => { point := ⟨0, 0, 0⟩, due := BitVec.ofNat 32 (i + 1), last := false } }

/-- Updates of track 0: UNBOUND, nothing due, one entry of two due, and the last entry due, with and without its end flag. -/
theorem witness_trackUpdates :
    let due := fun (k : Track) (t : LocalTime) => k.queue.takeWhile fun e => decide (0 ≤ (t - e.due).toInt)
    let left := fun (k : Track) (t : LocalTime) => k.queue.dropWhile fun e => decide (0 ≤ (t - e.due).toInt)
    (State.reset.tku[(0 : Fin 4)]).state = .unbound ∧ (queued 2).state ≠ .unbound ∧ due (queued 2) 0 = [] ∧
    (due (queued 2) 1).getLast? = some ⟨⟨0, 0, 0⟩, 1, false⟩ ∧ left (queued 2) 1 ≠ [] ∧
    (due (queued 2) 2).getLast? = some ⟨⟨0, 0, 0⟩, 2, false⟩ ∧ left (queued 2) 2 = [] ∧
    (due { queued 0 with queue := [⟨⟨0, 0, 0⟩, 1, true⟩] } 4).getLast? = some ⟨⟨0, 0, 0⟩, 1, true⟩ := by decide +kernel

/-- R147: the completion of a pass updates a track that runs out of entries. -/
theorem test_track_starves :
    let t := after { State.reset.setPass (some pass4) with tku := State.reset.tku.set 0 (queued 2) } .passCompletion
    (t.tku[0]).state = .starved ∧ (t.tku[0]).fromTime = some 2 ∧ t.rqd.stats.trackUnderruns = 1 ∧
      t.rqd.notices.map NoticeRecord.notice = [.imageInvalid, .track 0 .starved] := by decide +kernel

/-- Passes with fixtures left, with and without a sampling to meet before fixture 5. -/
theorem witness_passCompletion_left : (passStage fixture1).fxe.pass = some ⟨4, 0, 4, 0, none⟩ ∧
    ((passStage fixture1).fixture? 5).isSome = true ∧ (∃ u, exec .fixtureEvaluation (passStage fixture1) = .next u) ∧
    ((passStage fixture1).setPass (some ⟨4, 0, 4, 0, some ⟨rest, 4, 5⟩⟩)).fxe.pass = some ⟨4, 0, 4, 0, some ⟨rest, 4, 5⟩⟩ ∧
    (∀ j : Fin 128, 0 ≤ j.val → j < 5 → (passStage fixture1).fixture? j = none) ∧
    ∃ t, exec .passCompletion (passStage fixture1) = .next t :=
  ⟨rfl, by decide +kernel, ⟨_, rfl⟩, rfl, fun j _ h => stage_fixture j (Fin.ne_of_lt h), _, rfl⟩

theorem witness_stepExpiry : stage.fxe.pass = none ∧ (stage.fixture? 5).isSome = true ∧ State.reset.fxe.pass = none ∧
    ∀ i : Fin 128, State.reset.fixture? i = none := ⟨rfl, by decide +kernel, rfl, by decide +kernel⟩

/-- A state with timeline entries at 0, 40 and 40, show time 39 and the cue of the second entry READY. -/
def timeStage : State :=
  { State.reset with
    scu := { State.reset.scu with showTime := 39 }
    pbu := { State.reset.pbu with
      timeline := [⟨0, 1⟩, ⟨40, 2⟩, ⟨40, 3⟩], cursor := 1, poolFree := 1023
      cues := State.reset.pbu.cues.set 2 { state := .ready, declared := 1, parts := [levelPart] } } }

/-- `timeStage` RUNNING in LOCKED with a slip scheduled. -/
def slipStage (skip : Bool) : State :=
  { timeStage with scu := { timeStage.scu with
      running := true, lock := .locked ⟨39, true, 0⟩ 0 120 none (some { skip := skip, error := if skip then 5 else -5 }) } }

theorem time_timelineOk : timeStage.timelineOk := by
  unfold State.timelineOk
  decide +kernel

theorem witness_stepExpiry_timeline : (slipStage true).fxe.pass = none ∧ (slipStage true).timelineOk ∧
    (slipStage true).scu.running = true ∧ (slipStage false).scu.lock.slip = some { skip := false, error := -5 } ∧
    timeStage.scu.running = false ∧ timeStage.scu.lock.slip = none ∧
    (slipStage true).entriesPassed 47 = [⟨40, 2⟩, ⟨40, 3⟩] ∧ (timeStage.cueOf 2).state = .ready ∧
    (timeStage.cueOf 3).state ≠ .ready := by
  refine ⟨rfl, time_timelineOk, rfl, rfl, rfl, rfl, ?_, ?_, ?_⟩ <;> decide +kernel

/-- R112, R117 and R132: a SKIP passes both entries at 40; the READY cue fires, the other is missing. -/
theorem test_slip_fires :
    let t := after (slipStage true) (.stepExpiry rest 1)
    t.scu.showTime = 47 ∧ t.pbu.cursor = 3 ∧
      t.rqd.notices.map NoticeRecord.notice = [.imageInvalid, .slip true 5, .missingCue 3] := by decide +kernel

/-! ### Playback -/

theorem witness_go : (begun cueStage 0x2C (uni [byteOf 5])).serving 0x2C (uni [byteOf 5]) ∧
    (cueStage.cueOf 5).state = .ready ∧ (cueStage.cueOf 5).parts = [levelPart] ∧
    levelPart.selector = some (.fixture 5) := ⟨rfl, by decide +kernel, by decide +kernel, by decide +kernel⟩

/-- A cue of two parts for one fixture, the second with a delay. -/
def twoParts : State :=
  { stage with pbu := { stage.pbu with
      cues := stage.pbu.cues.set 5
        { state := .ready, declared := 2, parts := [levelPart, { levelPart with level := 200, delay := 50 }] } } }

/-- R107, R109 and R110: the first part starts, the second waits. -/
theorem test_go_parts :
    let t := after (begun twoParts 0x2C (uni [5])) (.go (uni [5]))
    replies t = [[0, 0, 1, 0, 1]] ∧ (t.fixture? 5).map (fun f => f.run.level.toValue) = some 100 ∧
      (t.fixture? 5).map (fun f => f.run.levelPending.map fun x => (x.toValue, x.due)) = some (some (200, .onLocal 50)) := by
  decide +kernel

theorem build_poolOk : buildStage.poolOk := by
  unfold State.poolOk
  decide +kernel

theorem witness_cueOpen : (begun buildStage 0x30 (uni [byteOf 95, byteOf 64])).serving 0x30 (uni [byteOf 95, byteOf 64]) ∧
    (begun buildStage 0x30 (uni [byteOf 95, byteOf 64])).ims.saving = none ∧
    (begun buildStage 0x30 (uni [byteOf 95, byteOf 64])).poolOk ∧ 1 ≤ 64 ∧ 64 ≤ 64 :=
  ⟨rfl, rfl, build_poolOk, by decide, by decide⟩

theorem witness_cuePart :
    let p := [byteOf 5, byteOf [levelPart].length] ++ [levelPart].flatMap PartRecord.bytes
    (begun buildStage 0x31 (uni p)).serving 0x31 (uni p) ∧ 1 ≤ [levelPart].length ∧ [levelPart].length ≤ 7 ∧
    (buildStage.cueOf 5).state = .opened ∧
    (∀ p ∈ [levelPart], p.selector.isSome ∧ p.aimOk ∧ p.colourOk ∧ p.someAttribute ∧ p.shape.toNat < 2) ∧
    (buildStage.cueOf 5).parts.length + [levelPart].length ≤ (buildStage.cueOf 5).declared ∧
    [levelPart].length ≤ buildStage.pbu.poolFree :=
  ⟨rfl, by decide, by decide, by decide +kernel, by decide +kernel, by decide +kernel, by decide +kernel⟩

/-- A pool of which cues 6 to 20 hold 64 parts each and cue 21 the rest, with cue 5 OPEN for two parts and none held. -/
def fullStage : State :=
  { stage with pbu := { stage.pbu with
      cues := Vector.ofFn fun i => if i = 5 then { state := .opened, declared := 2, parts := [] }
        else if 6 ≤ i.val ∧ i.val < 22 then { state := .ready, declared := 64, parts := List.replicate 64 levelPart }
        else Cue.blank
      poolFree := 0, openBuild := some { cue := 5, declared := 2, received := 0 } } }

theorem witness_cuePart_full : fullStage.poolOk ∧ (fullStage.cueOf 5).state = .opened ∧
    fullStage.pbu.poolFree < [levelPart].length := by
  unfold State.poolOk
  decide +kernel

theorem witness_cueDelete : (begun buildStage 0x32 (uni [byteOf 5])).serving 0x32 (uni [byteOf 5]) ∧
    (buildStage.cueOf 5).state ≠ .empty := ⟨rfl, by decide +kernel⟩

theorem witness_partPool : ∃ t, (∀ c ∈ (buildStage.withPending [.frameAbandoned]).pending, c.loadsImage = false) ∧
    (buildStage.withPending [.frameAbandoned]).poolOk ∧ step (buildStage.withPending [.frameAbandoned]) = .next t :=
  ⟨_, by decide, build_poolOk, rfl⟩

theorem witness_cursor : ∃ t, (∀ c ∈ (timeStage.withPending [.frameAbandoned]).pending, c.loadsImage = false) ∧
    (timeStage.withPending [.frameAbandoned]).timelineOk ∧ step (timeStage.withPending [.frameAbandoned]) = .next t :=
  ⟨_, by decide, time_timelineOk, rfl⟩

theorem witness_timeline_add :
    let e : TimelineEntry := ⟨86399999, 95⟩
    let p := be32 e.time ++ [byteOf e.cue.val]
    (begun timeStage 0x3B (uni p)).serving 0x3B (uni p) ∧ (begun timeStage 0x3B (uni p)).timelineOk ∧
    timeStage.ims.saving = none ∧ e.time ≤ 86399999 ∧ timeStage.pbu.timeline.length < 256 :=
  ⟨rfl, time_timelineOk, rfl, by decide, by decide⟩

theorem witness_timeline_full :
    ({ State.reset with pbu := { State.reset.pbu with
      timeline := List.replicate 256 ⟨5, 1⟩ } } : State).timelineOk ∧ 256 ≤ (List.replicate 256 (⟨5, 1⟩ : TimelineEntry)).length := by
  unfold State.timelineOk
  decide +kernel

theorem witness_timeline_remove :
    let p := be32 40 ++ [byteOf 3]
    (begun timeStage 0x3C (uni p)).serving 0x3C (uni p) ∧ (⟨40, 3⟩ : TimelineEntry) ∈ timeStage.pbu.timeline ∧
    (⟨40, 4⟩ : TimelineEntry) ∉ timeStage.pbu.timeline := ⟨rfl, by decide, by decide⟩

/-! ### Show time and the lock -/

theorem witness_showTime :
    let p := be32 86399999 ++ [boolByte true]
    (ask 0x38 p).serving 0x38 (uni p) ∧ (ask 0x38 p).scu.lock.name ≠ .locked ∧
    ((ask 0x38 p).setLock (.locked mark1 2 120 none none)).scu.lock.name = .locked ∧ (0 : Nat) ≤ timeStage.scu.showTime :=
  ⟨rfl, by decide, rfl, by decide⟩

theorem witness_clockSet :
    let p := [byteOf 10, byteOf 100] ++ be16 10000
    (ask 0x39 p).serving 0x39 (uni p) ∧ (ask 0x39 p).ims.saving = none ∧ 10 ∈ [2, 4, 5, 8, 10] ∧ 100 ≤ 100 ∧ 20 ≤ 10000 ∧
    10000 ≤ 10000 := ⟨rfl, rfl, by decide, by decide, by decide, by decide⟩

/-- The body of the mark at 3,600,000 with RUN set. -/
def markBody : List Byte := [1, 0, 0x36, 0xEE, 0x80, 0x5B]

theorem witness_mark : State.reset.scu.receiver = .hunting ∧ (State.reset.scu.lock = .search ∨ State.reset.scu.lock = .holdover) ∧
    markBody.length = 6 ∧ markBody.foldl (· + ·) (0 : Byte) = 0 ∧ u32 markBody 1 ≤ 86399999 ∧
    [1, 0, 0x36, 0xEE, 0x80, 0x5C].foldl (· + ·) (0 : Byte) ≠ 0 := by decide +kernel

/-- A SHOW-TIME that jumps over the entries at 40. -/
theorem witness_showTime_jump :
    let p := be32 40 ++ [boolByte false]
    (begun timeStage 0x38 (uni p)).serving 0x38 (uni p) ∧ (begun timeStage 0x38 (uni p)).timelineOk ∧
    timeStage.scu.showTime < 40 := ⟨rfl, time_timelineOk, by decide⟩

/-- LOCKED and RUNNING at show time `t`, the reference mark foretelling 3,600,000 now. -/
def lockedAt (t : Nat) : State :=
  { State.reset with scu := { State.reset.scu with
      showTime := t, running := true, lock := .locked ⟨3600000, true, 0⟩ 2 120 none none } }

theorem witness_locked : (lockedAt 3600000).scu.receiver = .hunting ∧ (lockedAt 3600000).scu.running = true ∧
    u8 markBody 0 % 2 = 1 ∧ 0 < (lockedAt 3600000).scu.period ∧ (lockedAt 3600000).scu.period < (lockedAt 3600000).scu.jumpThreshold ∧
    consistent ⟨3600000, true, 0⟩ ⟨u32 markBody 1, true, 0⟩ = true := by decide +kernel

theorem locked_timelineOk : (lockedAt 0).timelineOk := by
  unfold State.timelineOk
  decide +kernel

/-- Marks that are consistent with a base and marks that are not, at the ends of the span of section 7.4.1 with both flags
set, and with one clear. -/
theorem witness_consistent :
    let base : Mark := ⟨1000, true, 0⟩
    consistent base ⟨1037, true, 40⟩ = true ∧ consistent base ⟨1036, true, 40⟩ = false ∧
    consistent base ⟨1043, true, 40⟩ = true ∧ consistent base ⟨1044, true, 40⟩ = false ∧
    consistent base ⟨997, false, 40⟩ = true ∧ consistent { base with run := false } ⟨1004, false, 40⟩ = false := by
  decide +kernel

/-- The hypotheses of MarksMoveTheLock: a valid mark and a failed one, errors at and below J, a candidate that agrees, and
each count of bad marks. -/
theorem witness_marksMoveTheLock : (lockedAt 0).timelineOk ∧ (lockedAt 0).scu.receiver = .hunting ∧ markBody.length = 6 ∧
    (markBody.foldl (· + ·) (0 : Byte) = 0 ∧ u32 markBody 1 ≤ 86399999) ∧
    [1, 0, 0x36, 0xEE, 0x80, 0x5C].foldl (· + ·) (0 : Byte) ≠ 0 ∧
    ((lockedAt 0).setLock (.confirm ⟨3600000, true, 0⟩ 120)).scu.lock = .confirm ⟨3600000, true, 0⟩ 120 ∧
    (lockedAt 0).scu.jumpThreshold ≤ ((3600000 : Int) - 3599750).natAbs ∧
    ¬ (lockedAt 0).scu.jumpThreshold ≤ ((3600000 : Int) - 3599751).natAbs ∧
    (some (⟨3600000, true, 0⟩ : Mark)).any (fun c => consistent c ⟨3600000, true, 0⟩) = true ∧
    (none : Option Mark).any (fun c => consistent c ⟨3600000, true, 0⟩) = false ∧
    consistent ⟨5, true, 0⟩ ⟨3600000, true, 0⟩ = false ∧ 1 + 1 < 3 ∧ ¬ 2 + 1 < 3 :=
  ⟨locked_timelineOk, rfl, rfl, by decide, by decide, rfl, by decide, by decide, by decide +kernel, rfl, by decide +kernel,
    by decide, by decide⟩

/-- R125, R120 and R131: the confirming mark enters LOCKED, jumps, and sets RUNNING. -/
theorem test_mark_confirms :
    let t := after (State.reset.setLock (.confirm ⟨3600000, true, 0⟩ 120)) (.markReceived (0xA7 :: markBody))
    t.rqd.notices.map NoticeRecord.notice = [.imageInvalid, .lock .locked, .jump 0 3600000, .run true] ∧
      t.scu.showTime = 3600000 ∧ t.scu.lock = .locked ⟨3600000, true, 0⟩ 0 120 none none := by decide +kernel

/-- Errors at the bounds of the four decisions. -/
theorem witness_slip_errors : let e := fun t : Nat => ((3600000 : Int) - t)
    (250 : Int) ≤ (e 3599750).natAbs ∧ (4 : Int) ≤ e 3599996 ∧ e 3599751 < 250 ∧ -250 < e 3600249 ∧ e 3600004 ≤ -4 ∧
    ((e 3600003).natAbs : Int) < 4 := by decide +kernel

theorem witness_deadlines : (State.reset.setLock (.confirm mark1 120)).scu.lock = .confirm mark1 120 ∧
    State.reset.scu.lock.name ≠ .confirm ∧ State.reset.scu.lock.name ≠ .locked ∧
    (State.reset.setLock (.locked mark1 1 120 none none)).scu.lock = .locked mark1 1 120 none none ∧ 1 + 1 < 3 ∧ 3 ≤ 2 + 1 ∧
    (State.reset.setMarkReceiver (.collecting [1] 0)).scu.receiver = .collecting [1] 0 := by decide +kernel

theorem locked_ok (t : Nat) (l : List Instr) : ((lockedAt t).withPending l).lockOk :=
  ⟨(by decide : 2 < 3), fun _ _ h => by cases h⟩

theorem witness_lockStays : ∃ t, ((lockedAt 5).withPending [.watchDeadline]).lockOk ∧
    step ((lockedAt 5).withPending [.watchDeadline]) = .next t := ⟨_, locked_ok _ _, rfl⟩

/-! ### Tracks, sticks and lines -/

theorem witness_trackBind : (begun trackStage 0x40 (uni [byteOf 0, byteOf 31])).serving 0x40 (uni [byteOf 0, byteOf 31]) ∧
    (trackStage.tku[(0 : Fin 4)]).state ≠ .unbound ∧ (trackStage.tku[(3 : Fin 4)]).state = .unbound :=
  ⟨rfl, by decide +kernel, by decide +kernel⟩

theorem witness_trackPoints : (begun trackStage 0x41 (uni onePoint)).serving 0x41 (uni onePoint) ∧
    onePoint.length = 2 + 15 * u8 onePoint 1 ∧ u8 onePoint 0 = (0 : Fin 4).val ∧ u8 onePoint 1 = 1 ∧
    (∀ e ∈ sentEntries 1 (onePoint.drop 2), 1 ≤ e.interval ∧ e.interval ≤ 10000 ∧ e.flag < 2 ∧ e.point = ⟨2000, 2000, 0⟩) ∧
    Point.inStage ⟨2000, 2000, 0⟩ ∧ (trackStage.tku[(0 : Fin 4)]).state ≠ .running ∧ (queued 31).state = .running ∧
    (queued 31).queue.length + 1 ≤ 32 ∧ 32 < (queued 32).queue.length + 1 :=
  ⟨rfl, by decide, by decide, by decide, by decide +kernel, by unfold Point.inStage; decide, by decide +kernel, rfl,
    by decide +kernel, by decide +kernel⟩

theorem witness_trackRelease : (begun trackStage 0x42 (uni [byteOf 0])).serving 0x42 (uni [byteOf 0]) := rfl

theorem witness_tracksStay : ∃ t, ({ stage with tku := stage.tku.set 3 (queued 0) } : State).tku[(3 : Fin 4)].fromTime = some 0 ∧
    (trackStage.withPending [.frameAbandoned]).tracksOk ∧ step (trackStage.withPending [.frameAbandoned]) = .next t := by
  refine ⟨_, by decide +kernel, ?_, rfl⟩
  intro k
  have hq : ((trackStage.withPending [.frameAbandoned]).tku[k]).queue = [] := by revert k; decide +kernel
  have hr : ((trackStage.withPending [.frameAbandoned]).tku[k]).state ≠ .running := by revert k; decide +kernel
  have hf : ((trackStage.withPending [.frameAbandoned]).tku[k]).fromTime = none := by revert k; decide +kernel
  refine ⟨by rw [hq]; decide, ⟨fun h => absurd h hr, fun h => absurd hq h⟩, ?_, fun _ => hq⟩
  intro t ht
  rw [hf] at ht
  cases ht

theorem witness_stickSet : (ask 0x48 stickPayload).serving 0x48 (uni stickPayload) ∧ (ask 0x48 stickPayload).ims.saving = none ∧
    stickPayload.length = 9 ∧ u8 stickPayload 0 = (0 : Fin 2).val ∧ u8 stickPayload 1 < 32 ∧ u8 stickPayload 2 < 2 ∧
    u16 stickPayload 3 ≤ 400 ∧ 1 ≤ u16 stickPayload 5 ∧ u16 stickPayload 5 ≤ 20000 ∧ u16 stickPayload 7 ≤ 50000 :=
  ⟨rfl, rfl, by decide, by decide, by decide, by decide, by decide, by decide, by decide, by decide⟩

theorem witness_stickOthers : (ask 0x4A [byteOf 1]).serving 0x4A (uni [byteOf 1]) ∧
    (ask 0x49 [byteOf 1]).serving 0x49 (uni [byteOf 1]) ∧ (ask 0x4B [byteOf 0]).serving 0x4B (uni [byteOf 0]) ∧
    (decide ((16 : Nat) ≤ 16 ∨ 4079 ≤ 16)) = true ∧ (decide ((4078 : Nat) ≤ 16 ∨ 4079 ≤ 4078)) = false :=
  ⟨rfl, rfl, rfl, by decide, by decide⟩

/-- A stick at the edge of its dead band on both axes, one beyond it on y, and faulted axes. -/
theorem witness_stickOffsets : let k : Stick := { Stick.default with rawX := 2068, rawY := 2028, deadBand := 20, range := 40 }
    k.faultX = false ∧ k.faultY = false ∧ { k with faultX := true }.faultX = true ∧ { k with faultY := true }.faultY = true ∧
    ((k.rawX : Int) - k.centreX).natAbs ≤ k.deadBand ∧ ((k.rawY : Int) - k.centreY).natAbs ≤ k.deadBand ∧
    -(k.range : Int) ≤ k.offsetX ∧ k.offsetY ≤ k.range ∧ ¬ ((2027 : Int) - k.centreY).natAbs ≤ k.deadBand ∧
    k.sampling = .continuous ∧ { k with sampling := .single }.sampling = .single := by decide +kernel

theorem witness_lineSet :
    let p := [byteOf 0, armedCode .frame] ++ be16 512 ++ [0, checkCode .none, boolByte false] ++ be16 1000
    (begun stage 0x50 (uni p)).serving 0x50 (uni p) ∧ (begun stage 0x50 (uni p)).ims.saving = none ∧ 24 ≤ 512 ∧ 512 ≤ 512 ∧
    1 ≤ 1000 ∧ 1000 ≤ 1000 ∧ (stage.lnu[(0 : Fin 8)]).frame = none ∧ (stage.lnu[(0 : Fin 8)]).faultInput = false ∧
    ∀ i f, stage.fixture? i = some f → f.config.line = 0 → ArmedMode.frame = .frame ∧
      f.config.start + stage.footprint f.config - 1 ≤ 512 - (if CheckSlot.none = .none then 0 else 1) := by
  refine ⟨rfl, rfl, by decide, by decide, by decide, by decide, by decide +kernel, by decide +kernel, ?_⟩
  intro i f h
  by_cases hi : i = 5
  · subst hi
    rw [stage_fixture_5] at h
    cases h
    decide +kernel
  · rw [stage_fixture i hi] at h
    cases h

theorem witness_lineSet_cases : ((Line.default).started 0).frame.isSome = true ∧ { Line.default with faultInput := true }.faultInput = true ∧
    ArmedMode.pin ≠ .off := by decide +kernel

theorem witness_linePin : (ask 0x51 [byteOf 7, boolByte true]).serving 0x51 (uni [byteOf 7, boolByte true]) := rfl

theorem witness_lineStatic :
    let values := List.replicate 200 (5 : Byte)
    let p := [byteOf 7] ++ be16 313 ++ [byteOf values.length] ++ values
    (ask 0x52 p).serving 0x52 (uni p) ∧ 1 ≤ 313 ∧ 1 ≤ values.length ∧ values.length ≤ 200 ∧ 313 + values.length - 1 ≤ 512 :=
  ⟨rfl, by decide, by decide +kernel, by decide +kernel, by decide +kernel⟩

theorem witness_frames : (stage.lnu[(0 : Fin 8)]).mode = .frame ∧ (stage.lnu[(0 : Fin 8)]).frame = none ∧
    (stage.lnu[(1 : Fin 8)]).mode = .off ∧ ((Line.default).started 0).frame = some (Line.default.latch 0) ∧
    { Line.default with mode := .pin, armed := .pin, faultInput := true }.armed ≠ .off ∧
    { Line.default with mode := .pin }.mode = .pin ∧ { Line.default with mode := .fault }.mode = .fault := by decide +kernel

theorem witness_frameOnTheLine : let f := Line.default.latch 0
    1 ≤ f.length ∧ f.values.length = f.length ∧ 0 ≤ f.length ∧ 512 ≤ f.length ∧ f.check = .none ∧ { f with check := .xor }.check = .xor ∧
    { f with check := .sum }.check = .sum := by decide +kernel

end Sys2Proof.Tests
end

/-! ## The service of a request -/

namespace Sys2Proof.Machine

/-- No check of a list fails exactly when all of them hold. -/
theorem firstFailing_eq_none_iff (l : List (Bool × Status)) : firstFailing l = none ↔ ∀ x ∈ l, x.1 = true := by
  induction l with
  | nil => simp
  | cons x l ih =>
    obtain ⟨holds, st⟩ := x
    cases holds <;> simp [ih]

section
variable {s : State} {kind : Byte} {q : Request} {checks : State → List (Bool × Status)} {effect : State → State × Answer}

/-- A request in progress whose checks all hold takes its effect and is answered with it. -/
theorem State.serve_accepted (h : s.serving kind q) (hc : firstFailing (checks s) = none) :
    s.serve kind q (changeBody checks effect) = (effect s).1.answered kind q (effect s).2 := by
  rw [State.serve_of_inProgress h, changeBody_accepted hc]
  rfl

/-- A request in progress is refused with the status of its first failing check. -/
theorem State.serve_refused {st : Status} (h : s.serving kind q) (hc : firstFailing (checks s) = some st) :
    s.serve kind q (changeBody checks effect) = s.answered kind q (.refuse st) := by
  rw [State.serve_of_inProgress h, changeBody_refused hc]
  rfl

end

/-- The length check and the SAVING check hold of a table change of the right length while no save runs. -/
theorem tableChecks_passed {s : State} {lengthOk : Bool} {own : List (Bool × Status)} (hl : lengthOk = true)
    (hs : s.ims.saving = none) : firstFailing (tableChecks lengthOk s own) = firstFailing own := by
  simp [tableChecks, hl, State.notSaving, hs]

/-- A payload of `n` bytes has length `n`. -/
theorem hasLength_iff (q : Request) (n : Nat) : hasLength q n = true ↔ q.payload.length = n := by simp [hasLength]

/-! ### The numbers that payloads carry -/

/-- The first byte of a payload, as it was written. -/
theorem u8_byteOf_cons (n : Nat) (p : List Byte) (h : n < 256) : u8 (byteOf n :: p) 0 = n := by
  simp [u8, byteOf_toNat, Nat.mod_eq_of_lt h]

/-- A profile is in use exactly when a defined fixture names it (R1). -/
theorem State.profileInUse_iff (s : State) (n : Fin 16) :
    s.profileInUse n.val = true ↔ ∃ i f, s.fixture? i = some f ∧ f.config.profile = n := by
  simp [State.profileInUse, Option.any_eq_true, Fin.ext_iff]

/-- A profile is not in use exactly when every defined fixture names another. -/
theorem State.profileInUse_eq_false_iff (s : State) (n : Fin 16) :
    s.profileInUse n.val = false ↔ ∀ i f, s.fixture? i = some f → f.config.profile ≠ n := by
  simp [Bool.eq_false_iff, State.profileInUse_iff]

/-- A fixture is defined when the table holds one at its number. -/
theorem State.isDefined_iff (s : State) (i : Fin 128) : s.isDefined i.val = true ↔ (s.fixture? i).isSome = true := by
  simp [State.isDefined]

end Sys2Proof.Machine


/-! ## The angles of fixtures through every command -/

namespace Sys2Proof.Machine

/-- What `State.fixturesOk` says of one fixture: its configuration, over a table of profiles, and commanded angles `a`. -/
def FixtureConfig.anglesOk (c : FixtureConfig) (profiles : Vector (Option Profile) 16) (a : Angles) : Prop :=
  ∃ p, profiles[c.profile] = some p ∧ c.panWindow.inside p.panRange ∧ c.tiltWindow.inside p.tiltRange ∧
    c.panWindow.holds c.park.pan ∧ c.tiltWindow.holds c.park.tilt ∧ c.panWindow.holds a.pan ∧ c.tiltWindow.holds a.tilt

theorem State.fixturesOk_iff (s : State) :
    s.fixturesOk ↔ ∀ i f, s.fixture? i = some f → f.config.anglesOk s.fxe.profiles f.run.commanded := Iff.rfl

/-- A configuration in order stays in order with other commanded angles in its soft windows. -/
theorem FixtureConfig.anglesOk_of_held {c : FixtureConfig} {profiles : Vector (Option Profile) 16} {a b : Angles}
    (h : c.anglesOk profiles a)
    (hb : c.panWindow.lo ≤ c.panWindow.hi → c.tiltWindow.lo ≤ c.tiltWindow.hi →
      c.panWindow.holds b.pan ∧ c.tiltWindow.holds b.tilt) : c.anglesOk profiles b := by
  obtain ⟨p, hp, hpan, htilt, hparkPan, hparkTilt, -, -⟩ := h
  exact ⟨p, hp, hpan, htilt, hparkPan, hparkTilt, hb hpan.2.1 htilt.2.1⟩

/-- A configuration in order allows its own park angles. -/
theorem FixtureConfig.anglesOk_park {c : FixtureConfig} {profiles : Vector (Option Profile) 16} {a : Angles}
    (h : c.anglesOk profiles a) : c.anglesOk profiles c.park := by
  obtain ⟨p, hp, hpan, htilt, hparkPan, hparkTilt, -, -⟩ := h
  exact ⟨p, hp, hpan, htilt, hparkPan, hparkTilt, hparkPan, hparkTilt⟩

/-- `t` has the queue of `s`, and its fixtures are in order where those of `s` are. -/
def State.keepsAngles (s t : State) : Prop := t.pending = s.pending ∧ (s.fixturesOk → t.fixturesOk)

namespace State.keepsAngles

theorem refl (s : State) : s.keepsAngles s := ⟨rfl, id⟩

theorem trans {s t u : State} (h : s.keepsAngles t) (h' : t.keepsAngles u) : s.keepsAngles u :=
  ⟨h'.1.trans h.1, fun hs => h'.2 (h.2 hs)⟩

/-- What leaves the fixtures, the profiles and the queue alone keeps the angles. -/
theorem of_tables {s t : State} (hf : t.fxe.fixtures = s.fxe.fixtures) (hp : t.fxe.profiles = s.fxe.profiles)
    (hq : t.pending = s.pending) : s.keepsAngles t := by
  refine ⟨hq, fun hs i f h => ?_⟩
  rw [hp]
  exact hs i f (by rw [← h]; unfold State.fixture?; rw [hf])

/-- What leaves the fixture engine and the queue alone keeps the angles. -/
theorem of_fxe {s t : State} (hf : t.fxe = s.fxe) (hq : t.pending = s.pending) : s.keepsAngles t :=
  of_tables (by rw [hf]) (by rw [hf]) hq

/-- A fold keeps the angles when each of its steps does. -/
theorem foldl {α : Type} {f : State → α → State} (h : ∀ (s : State) a, s.keepsAngles (f s a)) (l : List α) (s : State) :
    s.keepsAngles (l.foldl f s) := by
  induction l generalizing s with
  | nil => exact refl s
  | cons a l ih => exact (h s a).trans (ih (f s a))

/-- A choice keeps the angles when both sides do. -/
theorem ite {s t u : State} {c : Prop} [Decidable c] (ht : s.keepsAngles t) (hu : s.keepsAngles u) :
    s.keepsAngles (if c then t else u) := by
  split
  · exact ht
  · exact hu

end State.keepsAngles

open State.keepsAngles

/-! ### Changes of fixtures -/

/-- A fixture that is put in order into the table keeps the others in order. -/
theorem State.setFixture_keepsAngles {s : State} {i : Fin 128} {o : Option Fixture}
    (h : s.fixturesOk → ∀ f, o = some f → f.config.anglesOk s.fxe.profiles f.run.commanded) : s.keepsAngles (s.setFixture i o) := by
  refine ⟨rfl, fun hs j f hf => ?_⟩
  rw [State.setFixture_fixture?] at hf
  split at hf
  · exact h hs f hf
  · exact hs j f hf

/-- A change of one fixture that leaves configuration and commanded angles as they are. -/
theorem State.modifyFixture_keepsAngles {g : Fixture → Fixture}
    (hg : ∀ f, (g f).config = f.config ∧ (g f).run.commanded = f.run.commanded) (s : State) (i : Fin 128) :
    s.keepsAngles (s.modifyFixture i g) := by
  unfold State.modifyFixture
  split
  · next f hf =>
    refine State.setFixture_keepsAngles fun hs f' hf' => ?_
    cases hf'
    rw [(hg f).1, (hg f).2]
    exact hs i f hf
  · exact refl s

/-- A change of listed fixtures that leaves configurations and commanded angles as they are. -/
theorem State.modifyFixtures_keepsAngles {g : Fixture → Fixture}
    (hg : ∀ f, (g f).config = f.config ∧ (g f).run.commanded = f.run.commanded) (s : State) (l : List (Fin 128)) :
    s.keepsAngles (s.modifyFixtures l g) :=
  State.keepsAngles.foldl (fun s i => State.modifyFixture_keepsAngles hg s i) l s

/-! ### The service of requests -/

/-- A service keeps the angles when its body does. -/
theorem State.serve_keepsAngles {kind : Byte} {q : Request} {body : State → State × Answer}
    (h : ∀ u : State, u.keepsAngles (body u).1) (s : State) : s.keepsAngles (s.serve kind q body) := by
  have hp : s.keepsAngles (s.present { kind := kind, request := q }) := of_fxe (by simp) (by simp)
  unfold State.serve
  dsimp only
  split
  · exact (hp.trans (h _)).trans (of_fxe (by simp) (by simp))
  · exact hp

section
variable {kind : Byte} {q : Request} {checks : State → List (Bool × Status)} {effect : State → State × Answer}

/-- A request keeps the angles when its effect, accepted by its checks, does. -/
theorem State.request_keepsAngles (h : ∀ u : State, firstFailing (checks u) = none → u.keepsAngles (effect u).1) (s : State) :
    s.keepsAngles (s.serve kind q (changeBody checks effect)) := by
  refine State.serve_keepsAngles (fun u => ?_) s
  cases hc : firstFailing (checks u) with
  | none => rw [changeBody_accepted hc]; exact h u hc
  | some st => rw [changeBody_refused hc]; exact refl u

/-- A request whose effect leaves the fixture engine and the queue alone keeps the angles. -/
theorem State.request_keepsAngles_of_fxe (hf : ∀ u, (effect u).1.fxe = u.fxe) (hq : ∀ u, (effect u).1.pending = u.pending)
    (s : State) : s.keepsAngles (s.serve kind q (changeBody checks effect)) :=
  State.request_keepsAngles (fun u _ => of_fxe (hf u) (hq u)) s

end

/-! ### Direct requests and overrides -/

/-- A change of the selected fixtures that leaves configurations and commanded angles as they are. -/
theorem State.changeSelected_keepsAngles {g : Fixture → Fixture}
    (hg : ∀ f, (g f).config = f.config ∧ (g f).run.commanded = f.run.commanded) (s : State) (q : Request) :
    s.keepsAngles (s.changeSelected q g).1 := State.modifyFixtures_keepsAngles hg s _

/-! ### Firings and moves of show time -/

/-- A fired part leaves configuration and commanded angles as they are. -/
theorem PartRecord.given_angles (p : PartRecord) (prof : Profile) (c : Nat) (m : Moment) (b : Bool) (f : Fixture) :
    (p.given prof c m b f).config = f.config ∧ (p.given prof c m b f).run.commanded = f.run.commanded := by
  refine ⟨rfl, ?_⟩
  change (ite _ _ _ : Runtime).commanded = _
  rw [apply_ite Runtime.commanded, ite_self]

theorem Firing.walk_keepsAngles (w : Firing) (parts : List PartRecord) (s : State) (a b : Nat) :
    s.keepsAngles (w.walk parts (s, a, b)).1 := by
  induction parts generalizing s a b with
  | nil => exact refl s
  | cons p rest ih =>
    refine (State.modifyFixtures_keepsAngles (fun f => ?_) s _).trans (ih _ _ _)
    rw [Firing.firePart_eq_given]
    exact PartRecord.given_angles p _ _ _ _ f

theorem State.fireEntry_keepsAngles (snapped : Bool) (s : State) (e : TimelineEntry) :
    s.keepsAngles (s.fireEntry snapped e) :=
  ite (Firing.walk_keepsAngles _ _ s 0 0) (of_fxe rfl rfl)

theorem State.reportForward_keepsAngles (s : State) (snapped : Bool) (t : Nat) :
    s.keepsAngles (s.reportForward snapped t) :=
  (State.keepsAngles.foldl (State.fireEntry_keepsAngles snapped) _ s).trans (of_fxe rfl rfl)

theorem State.jumpTo_keepsAngles (s : State) (t : Nat) : s.keepsAngles (s.jumpTo t) := by
  have moved : s.keepsAngles ((s.setShowTime t).discardSlip) := of_fxe rfl rfl
  refine (moved.trans (ite (State.reportForward_keepsAngles _ true t) ?_)).trans (of_fxe rfl rfl)
  exact of_fxe rfl rfl

theorem State.relocate_keepsAngles (s : State) (t : Nat) : s.keepsAngles (s.relocate t) := by
  have moved : s.keepsAngles ((s.setShowTime t).discardSlip) := of_fxe rfl rfl
  refine ite (State.jumpTo_keepsAngles s t) (ite (moved.trans (State.reportForward_keepsAngles _ false t)) (ite ?_ moved))
  exact moved.trans (of_fxe rfl rfl)

/-! ### Marks and the lock machine -/

theorem State.setRunning_keepsAngles (s : State) (r : Bool) : s.keepsAngles (s.setRunning r) := of_fxe (by simp) (by simp)

theorem State.countBad_keepsAngles (s : State) (m : Mark) (n : Nat) (w : LocalTime) (c : Option Mark) (x : Option Slip) :
    s.keepsAngles (s.countBad m n w c x) := of_fxe (by simp) (by simp)

theorem State.actOnMark_keepsAngles (s : State) (m : Mark) : s.keepsAngles (s.actOnMark m) := by
  unfold State.actOnMark
  split
  · exact of_fxe (by simp) (by simp)
  · exact (s.setRunning_keepsAngles true).trans (State.relocate_keepsAngles _ _)
  · exact ((s.setRunning_keepsAngles false).trans (State.relocate_keepsAngles _ _)).trans (of_fxe rfl rfl)
  · exact s.relocate_keepsAngles m.time

theorem State.enterLocked_keepsAngles (s : State) (m : Mark) : s.keepsAngles (s.enterLocked m) := by
  have entered : s.keepsAngles (s.enterLock (.locked m 0 (s.deadlineAfter m.arrival) none none)) := of_fxe rfl rfl
  exact (entered.trans (ite (State.jumpTo_keepsAngles _ _) (refl _))).trans (State.actOnMark_keepsAngles _ m)

theorem State.lockedMark_keepsAngles (s : State) (m r : Mark) (bad : Nat) (c : Option Mark) (x : Option Slip) :
    s.keepsAngles (s.lockedMark m r bad c x) := by
  have locked : s.keepsAngles (s.setLock (.locked m 0 (s.deadlineAfter m.arrival) none x)) := of_fxe rfl rfl
  refine ite ?_ (ite ?_ (s.countBad_keepsAngles _ _ _ _ _))
  · exact (locked.trans (State.jumpTo_keepsAngles _ _)).trans (State.actOnMark_keepsAngles _ m)
  · exact locked.trans (State.actOnMark_keepsAngles _ m)

theorem State.takeMark_keepsAngles (s : State) (m : Mark) : s.keepsAngles (s.takeMark m) := by
  unfold State.takeMark
  split
  · exact of_fxe rfl rfl
  · exact of_fxe rfl rfl
  · exact ite (s.enterLocked_keepsAngles m) (of_fxe rfl rfl)
  · exact s.lockedMark_keepsAngles m _ _ _ _

theorem State.completeMark_keepsAngles (s : State) (body : List Byte) : s.keepsAngles (s.completeMark body) := by
  have counted : ∀ f, s.keepsAngles (s.count f) := fun f => of_fxe rfl rfl
  exact ite ((counted _).trans (State.takeMark_keepsAngles _ _)) (of_fxe (by simp) (by simp))

theorem State.syncByte_keepsAngles (s : State) (b : Byte) : s.keepsAngles (s.syncByte b) := by
  have gap : s.keepsAngles s.checkMarkGap := of_fxe (by simp) (by simp)
  refine gap.trans ?_
  unfold State.syncByte State.takeSyncByte
  split
  · exact ite (of_fxe rfl rfl) (refl _)
  · refine ite (of_fxe rfl rfl) ?_
    have hunting : s.checkMarkGap.keepsAngles (s.checkMarkGap.setMarkReceiver .hunting) := of_fxe rfl rfl
    exact hunting.trans (State.completeMark_keepsAngles _ _)

/-! ### The evaluation pass -/

/-- The slew limiter ends in its window (R51, R55). -/
theorem slew_holds (vs as : Nat) (w : Window) (c v d : Int) (h : w.lo ≤ w.hi) : w.holds (slew vs as w c v d).1 := by
  unfold slew
  dsimp only
  generalize c + _ = c5
  unfold Window.holds
  repeat' split
  all_goals dsimp only; omega

@[simp] theorem Fixture.promoteAim_config (f : Fixture) (p : Pass) : (f.promoteAim p).config = f.config := by
  unfold Fixture.promoteAim
  split
  · split <;> rfl
  · rfl

@[simp] theorem Fixture.promoteColour_config (f : Fixture) (prof : Profile) (p : Pass) :
    (f.promoteColour prof p).config = f.config := by
  unfold Fixture.promoteColour
  split
  · split <;> rfl
  · rfl

@[simp] theorem Fixture.promoteLevel_config (f : Fixture) (p : Pass) : (f.promoteLevel p).config = f.config := by
  unfold Fixture.promoteLevel
  split
  · split <;> rfl
  · rfl

@[simp] theorem Fixture.stepAim_config (f : Fixture) (p : Pass) (served : Fin 4 → Point) :
    (f.stepAim p served).config = f.config := rfl

@[simp] theorem Fixture.stepColour_config (f : Fixture) (prof : Profile) (p : Pass) :
    (f.stepColour prof p).config = f.config := f.promoteColour_config prof p

@[simp] theorem Fixture.stepLevel_config (f : Fixture) (p : Pass) : (f.stepLevel p).config = f.config :=
  f.promoteLevel_config p

@[simp] theorem Fixture.stepOutputs_config (f : Fixture) (prof : Profile) (p : Pass) (zones : List Zone)
    (sticks : List Stick) : (f.stepOutputs prof p zones sticks).config = f.config := rfl

/-- Steps 2 to 8 of an evaluation leave the commanded angles in the soft windows. -/
theorem Fixture.stepOutputs_holds {f : Fixture} {c : FixtureConfig} (hc : f.config = c) (prof : Profile) (p : Pass)
    (zones : List Zone) (sticks : List Stick) (hpan : c.panWindow.lo ≤ c.panWindow.hi)
    (htilt : c.tiltWindow.lo ≤ c.tiltWindow.hi) :
    c.panWindow.holds (f.stepOutputs prof p zones sticks).run.commanded.pan ∧
      c.tiltWindow.holds (f.stepOutputs prof p zones sticks).run.commanded.tilt := by
  subst hc
  exact ⟨slew_holds _ _ _ _ _ _ hpan, slew_holds _ _ _ _ _ _ htilt⟩

/-- An evaluation keeps the configuration of a fixture. -/
theorem State.evaluated_config (s : State) (p : Pass) (i : Fin 128) (f : Fixture) :
    (s.evaluated p i (f.promoteAim p)).config = f.config := by
  simp [State.evaluated]

/-- An evaluation leaves the commanded angles in the soft windows (R51, R55). -/
theorem State.evaluated_holds (s : State) (p : Pass) (i : Fin 128) (f : Fixture)
    (hpan : f.config.panWindow.lo ≤ f.config.panWindow.hi) (htilt : f.config.tiltWindow.lo ≤ f.config.tiltWindow.hi) :
    f.config.panWindow.holds (s.evaluated p i (f.promoteAim p)).run.commanded.pan ∧
      f.config.tiltWindow.holds (s.evaluated p i (f.promoteAim p)).run.commanded.tilt := by
  unfold State.evaluated
  exact Fixture.stepOutputs_holds (by simp) _ p _ _ hpan htilt

/-- The evaluated fixture goes back into the table in order, with the notices and the slot values of its evaluation. -/
theorem State.storeEvaluated_keepsAngles {s u : State} (hx : u.fxe = s.fxe) (hq : u.pending = s.pending) {i : Fin 128}
    {f : Fixture} (hf : s.fixture? i = some f) (p : Pass) (after : Runtime) (l : Fin 8) (write : Line → Line) :
    s.keepsAngles (((u.setFixture i (some (u.evaluated p i (f.promoteAim p)))).raiseFlags i f.run after).modifyLine l write) := by
  have stored : u.keepsAngles (u.setFixture i (some (u.evaluated p i (f.promoteAim p)))) := by
    refine State.setFixture_keepsAngles fun hu g hg => ?_
    cases hg
    have hfu : u.fixture? i = some f := by rw [← hf, State.fixture?, State.fixture?, hx]
    rw [State.evaluated_config]
    exact FixtureConfig.anglesOk_of_held (hu i f hfu) (u.evaluated_holds p i f)
  exact ((of_fxe hx hq).trans stored).trans (of_fxe (by simp) (by simp))

theorem State.evaluateDefined_keepsAngles {s : State} {i : Fin 128} {f : Fixture} (hf : s.fixture? i = some f) (p : Pass) :
    s.keepsAngles (s.evaluateDefined p i f) := by
  unfold State.evaluateDefined
  dsimp only
  cases (f.promoteAim p).followedTrack with
  | none => exact State.storeEvaluated_keepsAngles rfl rfl hf p _ _ _
  | some k => exact State.storeEvaluated_keepsAngles (by simp) (by simp) hf p _ _ _

theorem State.evaluate_keepsAngles (s : State) (p : Pass) (i : Fin 128) : s.keepsAngles (s.evaluate p i) := by
  unfold State.evaluate
  split
  · next f hf => exact State.evaluateDefined_keepsAngles hf p
  · exact refl s

theorem State.meetSampling_keepsAngles (s : State) (p : Pass) (n : Nat) : s.keepsAngles (s.meetSampling p n).1 := by
  unfold State.meetSampling
  split
  · exact refl s
  · split
    · exact of_fxe (by simp) (by simp)
    · exact refl s

theorem State.setPass_keepsAngles (s : State) (p : Option Pass) : s.keepsAngles (s.setPass p) := of_tables rfl rfl rfl

theorem State.evaluateNext_keepsAngles (s : State) (p : Pass) : s.keepsAngles (s.evaluateNext p) := by
  unfold State.evaluateNext
  split
  · exact refl s
  · exact ((s.meetSampling_keepsAngles p _).trans (State.evaluate_keepsAngles _ _ _)).trans
      (State.setPass_keepsAngles _ _)

theorem State.evaluateRest_keepsAngles (n : Nat) (s : State) : s.keepsAngles (s.evaluateRest n) := by
  induction n generalizing s with
  | zero => exact refl s
  | succ n ih =>
    unfold State.evaluateRest
    split
    · next p _ => exact ite ((s.evaluateNext_keepsAngles p).trans (ih _)) (refl s)
    · exact refl s

theorem State.completePass_keepsAngles (s : State) : s.keepsAngles s.completePass := by
  unfold State.completePass
  split
  · exact refl s
  · next p _ => cases p.sampling <;> exact of_tables (by simp) (by simp) (by simp)

theorem State.finishPass_keepsAngles (s : State) : s.keepsAngles s.finishPass :=
  (State.evaluateRest_keepsAngles 128 s).trans (State.completePass_keepsAngles _)

/-! ### The step expiry -/

theorem State.expire_keepsAngles (s : State) (t : LocalTime) : s.keepsAngles (s.expire t) := by
  have advanced : s.keepsAngles (s.nextStep.advanceShow s.scu.period) := of_fxe (by simp) (by simp)
  unfold State.expire
  dsimp only
  generalize s.nextStep.advanceShow s.scu.period = u at advanced ⊢
  exact (advanced.trans (u.reportForward_keepsAngles false u.scu.showTime)).trans (of_fxe (by simp) (by simp))

theorem State.expireWith_keepsAngles (s : State) (t : LocalTime) (adc : Readings) (n : Nat) :
    s.keepsAngles (s.expireWith t adc n) := by
  cases n with
  | zero =>
    have sampled : s.keepsAngles ((s.setInputs adc).sampleSticks adc s.scu.period) := of_fxe (by simp) (by simp)
    exact (sampled.trans (State.expire_keepsAngles _ t)).trans (State.setPass_keepsAngles _ _)
  | succ n =>
    have read : s.keepsAngles (s.setInputs adc) := of_fxe rfl rfl
    exact (read.trans (State.expire_keepsAngles _ t)).trans (State.setPass_keepsAngles _ _)

/-! ### Tracks -/

theorem Fixture.holdAim_angles (t : LocalTime) (f : Fixture) :
    (f.holdAim t).config = f.config ∧ (f.holdAim t).run.commanded = f.run.commanded := by
  unfold Fixture.holdAim
  split <;> exact ⟨rfl, rfl⟩

theorem State.releaseTrack_keepsAngles (s : State) (k : Fin 4) : s.keepsAngles (s.releaseTrack k) :=
  (State.modifyFixtures_keepsAngles (Fixture.holdAim_angles _) s _).trans (of_fxe rfl rfl)

theorem State.bindTrack_keepsAngles (s : State) (k : Fin 4) (g : Nat) : s.keepsAngles (s.bindTrack k g).1 := by
  have released : s.keepsAngles (if s.tku[k].state = .unbound then s else s.releaseTrack k) :=
    ite (refl s) (s.releaseTrack_keepsAngles k)
  have bound := State.modifyFixtures_keepsAngles (g := Fixture.bindTo k s.localClock) (fun _ => ⟨rfl, rfl⟩)
  exact (released.trans (bound _ _)).trans (of_fxe rfl rfl)

/-! ### The tables -/

/-- An accepted PROFILE-LOAD or PROFILE-REMOVE changes a profile that no fixture names (R1). -/
theorem State.setProfile_keepsAngles {s : State} {n : Fin 16} (h : s.profileInUse n.val = false) (o : Option Profile) :
    s.keepsAngles (s.setProfile n o) := by
  refine ⟨rfl, fun hs i f hf => ?_⟩
  have hne : n.val ≠ f.config.profile.val := fun e => (s.profileInUse_eq_false_iff n).mp h i f hf (Fin.ext e.symm)
  obtain ⟨p, hp, rest⟩ := hs i f hf
  exact ⟨p, by simpa [hne] using hp, rest⟩

theorem State.setFixtureSlots_keepsAngles (s : State) (i : Fin 128) (o : Nat) (values : List Byte) :
    s.keepsAngles (s.setFixtureSlots i o values) := by
  unfold State.setFixtureSlots
  split
  · exact refl s
  · next f hf =>
    refine (State.setFixture_keepsAngles fun hs g hg => ?_).trans (of_fxe rfl rfl)
    cases hg
    exact hs i f hf

theorem State.removeFixture_keepsAngles (s : State) (i : Fin 128) : s.keepsAngles (s.removeFixture i) := by
  have cleared : s.keepsAngles ((s.fixture? i).elim s fun f => s.clearFootprint f.config) := by
    cases s.fixture? i with
    | none => exact refl s
    | some f => exact of_fxe (by simp) (by simp)
  exact cleared.trans (State.setFixture_keepsAngles fun _ f hf => by cases hf)

theorem State.setGroup_keepsAngles (s : State) (g : Nat) (member : Nat → Bool) : s.keepsAngles (s.setGroup g member) := by
  unfold State.setGroup
  refine State.keepsAngles.foldl (fun t i => State.modifyFixture_keepsAngles ?_ t i) _ s
  exact fun _ => ⟨rfl, rfl⟩

/-- FIXTURE-DEFINE puts a fixture into the table that parks in its own windows, where they lie in the ranges of its profile. -/
theorem State.defineFixture_keepsAngles {s : State} {c : FixtureConfig} (i : Fin 128)
    (hc : c.anglesOk s.fxe.profiles c.park) : s.keepsAngles (s.defineFixture i c) := by
  have cleared : ∀ o : Option Fixture, (o.elim s fun old => s.clearFootprint old.config).fxe = s.fxe ∧
      (o.elim s fun old => s.clearFootprint old.config).pending = s.pending := by
    intro o
    cases o <;> simp
  unfold State.defineFixture
  dsimp only
  obtain ⟨hf, hq⟩ := cleared (s.fixture? i)
  generalize (s.fixture? i).elim s _ = u at hf hq ⊢
  have defined : u.keepsAngles (u.setFixture i (some (s.newFixture i c))) := by
    refine State.setFixture_keepsAngles fun _ f h => ?_
    cases h
    rw [hf]
    exact hc
  exact ((of_fxe hf hq).trans defined).trans (of_fxe (by simp) (by simp))

/-- The checks of FIXTURE-DEFINE let only configurations in order pass (R7). -/
theorem anglesOk_of_defineChecks {q : Request} {s : State} (h : firstFailing (defineChecks q s) = none) :
    (configOf (q.payload.drop 1)).anglesOk s.fxe.profiles (configOf (q.payload.drop 1)).park := by
  rw [firstFailing_eq_none_iff] at h
  simp only [defineChecks, tableChecks, List.forall_mem_cons, decide_eq_true_eq] at h
  obtain ⟨-, -, -, -, -, -, hprof, -, ⟨hpan, htilt, hpanLo, hpanHi, htiltLo, htiltHi⟩,
    ⟨hparkPanLo, hparkPanHi, hparkTiltLo, hparkTiltHi⟩, -⟩ := h
  obtain ⟨p, hp⟩ := Option.isSome_iff_exists.mp hprof
  simp only [State.profileOf, hp, Option.getD_some] at hpanLo hpanHi htiltLo htiltHi
  exact ⟨p, hp, ⟨hpanLo, hpan, hpanHi⟩, ⟨htiltLo, htilt, htiltHi⟩, ⟨hparkPanLo, hparkPanHi⟩,
    ⟨hparkTiltLo, hparkTiltHi⟩, ⟨hparkPanLo, hparkPanHi⟩, ⟨hparkTiltLo, hparkTiltHi⟩⟩

/-! ### RESTART and CLEAR-SHOW -/

theorem State.resetRuntimes_keepsAngles (s : State) : s.keepsAngles s.resetRuntimes := by
  refine ⟨rfl, fun hs i g hg => ?_⟩
  have hmap : s.resetRuntimes.fixture? i = (s.fixture? i).map s.resetFixture := by
    simp [State.fixture?]
  rw [hmap] at hg
  obtain ⟨f, hf, rfl⟩ := Option.map_eq_some_iff.mp hg
  exact FixtureConfig.anglesOk_park (hs i f hf)

theorem State.restart_keepsAngles (s : State) : s.keepsAngles s.restart := by
  have emptied : s.keepsAngles s.emptyLanes.emptyNotices.abortBuild := of_fxe (by simp) (by simp)
  unfold State.restart
  exact (emptied.trans (State.resetRuntimes_keepsAngles _)).trans (of_fxe (by simp) (by simp))

theorem State.serveRestart_keepsAngles (s : State) (q : Request) : s.keepsAngles (s.serveRestart q) := by
  have presented : s.keepsAngles (s.present { kind := 0x05, request := q }) := of_fxe (by simp) (by simp)
  unfold State.serveRestart
  dsimp only
  split
  · split
    · exact presented.trans (of_fxe (by simp) (by simp))
    · refine (presented.trans ?_).trans (State.restart_keepsAngles _)
      exact ite (of_fxe rfl rfl) (of_fxe rfl rfl)
  · exact presented

/-- After CLEAR-SHOW no fixture is defined. -/
theorem State.clearShow_keepsAngles (s : State) : s.keepsAngles s.clearShow := by
  refine ⟨by simp [State.clearShow, State.emptyShow], fun _ i f hf => ?_⟩
  have none : s.clearShow.fixture? i = none := by simp [State.fixture?, State.clearShow, State.emptyShow]
  rw [none] at hf
  cases hf

end Sys2Proof.Machine

/-! ### Every command -/

namespace Sys2Proof.Machine

open State.keepsAngles

/-- The next state of an outcome, if it has one, keeps the angles of `s`. -/
def State.outcomeKeeps (s : State) (o : Host.Outcome State Fault Refusal) : Prop := ∀ t, o = .next t → s.keepsAngles t

theorem State.outcomeKeeps_next {s t : State} (h : s.keepsAngles t) : s.outcomeKeeps (.next t) := by
  intro u e
  cases e
  exact h

section
variable {kind : Byte} {q : Request} {checks : State → List (Bool × Status)} {effect : State → State × Answer}

theorem State.outcomeKeeps_request (h : ∀ u : State, firstFailing (checks u) = none → u.keepsAngles (effect u).1) (s : State) :
    s.outcomeKeeps (.next (s.serve kind q (changeBody checks effect))) :=
  State.outcomeKeeps_next (State.request_keepsAngles h s)

theorem State.outcomeKeeps_request_of_fxe (hf : ∀ u, (effect u).1.fxe = u.fxe)
    (hq : ∀ u, (effect u).1.pending = u.pending) (s : State) :
    s.outcomeKeeps (.next (s.serve kind q (changeBody checks effect))) :=
  State.outcomeKeeps_next (State.request_keepsAngles_of_fxe hf hq s)

/-- A query answers and changes nothing. -/
theorem State.outcomeKeeps_read {answer : State → Answer} (s : State) :
    s.outcomeKeeps (.next (s.serve kind q (changeBody checks fun u => (u, answer u)))) :=
  State.outcomeKeeps_request_of_fxe (fun _ => rfl) (fun _ => rfl) s

end

/-! #### The queries and reads -/

theorem execUnitQuery_keepsAngles (q : Request) (s : State) : s.outcomeKeeps (execUnitQuery q s) :=
  State.outcomeKeeps_read s

theorem execProfileRead_keepsAngles (q : Request) (s : State) : s.outcomeKeeps (execProfileRead q s) :=
  State.outcomeKeeps_read s

theorem execFixtureRead_keepsAngles (q : Request) (s : State) : s.outcomeKeeps (execFixtureRead q s) :=
  State.outcomeKeeps_read s

theorem execGroupRead_keepsAngles (q : Request) (s : State) : s.outcomeKeeps (execGroupRead q s) :=
  State.outcomeKeeps_read s

theorem execZoneRead_keepsAngles (q : Request) (s : State) : s.outcomeKeeps (execZoneRead q s) :=
  State.outcomeKeeps_read s

theorem execFixtureQuery_keepsAngles (q : Request) (s : State) : s.outcomeKeeps (execFixtureQuery q s) :=
  State.outcomeKeeps_read s

theorem execCueRead_keepsAngles (q : Request) (s : State) : s.outcomeKeeps (execCueRead q s) :=
  State.outcomeKeeps_read s

theorem execClockQuery_keepsAngles (q : Request) (s : State) : s.outcomeKeeps (execClockQuery q s) :=
  State.outcomeKeeps_read s

theorem execTimelineRead_keepsAngles (q : Request) (s : State) : s.outcomeKeeps (execTimelineRead q s) :=
  State.outcomeKeeps_read s

theorem execTrackQuery_keepsAngles (q : Request) (s : State) : s.outcomeKeeps (execTrackQuery q s) :=
  State.outcomeKeeps_read s

theorem execStickQuery_keepsAngles (q : Request) (s : State) : s.outcomeKeeps (execStickQuery q s) :=
  State.outcomeKeeps_read s

theorem execLineQuery_keepsAngles (q : Request) (s : State) : s.outcomeKeeps (execLineQuery q s) :=
  State.outcomeKeeps_read s

theorem execLineImage_keepsAngles (q : Request) (s : State) : s.outcomeKeeps (execLineImage q s) :=
  State.outcomeKeeps_read s

/-! #### The link, notices, counters and the show image -/

theorem execFrameReceived_keepsAngles (bytes : List Byte) (s : State) : s.outcomeKeeps (execFrameReceived bytes s) :=
  State.outcomeKeeps_next (foldl (fun _ _ => of_fxe (by simp) (by simp)) bytes s)

theorem execFrameAbandoned_keepsAngles (s : State) : s.outcomeKeeps (execFrameAbandoned s) := by
  unfold execFrameAbandoned
  split
  · exact State.outcomeKeeps_next (refl s)
  · exact State.outcomeKeeps_next (of_fxe rfl rfl)
  · exact State.outcomeKeeps_next (of_fxe rfl rfl)

theorem execReplySent_keepsAngles (s : State) : s.outcomeKeeps (execReplySent s) := by
  unfold execReplySent
  split
  · exact State.outcomeKeeps_next (refl s)
  · exact State.outcomeKeeps_next (of_fxe rfl rfl)

theorem execUnknownKind_keepsAngles (kind : Byte) (q : Request) (s : State) : s.outcomeKeeps (execUnknownKind kind q s) := by
  unfold execUnknownKind
  split
  · exact State.outcomeKeeps_next (refl s)
  · exact State.outcomeKeeps_next (State.serve_keepsAngles State.keepsAngles.refl s)

theorem execNoticePoll_keepsAngles (q : Request) (s : State) : s.outcomeKeeps (execNoticePoll q s) := by
  unfold execNoticePoll
  refine State.outcomeKeeps_request (fun u _ => ?_) s
  unfold State.pollNotices
  split <;> exact of_fxe rfl rfl

theorem execStats_keepsAngles (q : Request) (s : State) : s.outcomeKeeps (execStats q s) := by
  unfold execStats
  refine State.outcomeKeeps_request (fun u _ => ?_) s
  unfold State.takeStats
  exact ite (of_fxe rfl rfl) (refl u)

theorem execSave_keepsAngles (q : Request) (s : State) : s.outcomeKeeps (execSave q s) := by
  unfold execSave
  exact State.outcomeKeeps_request_of_fxe (fun _ => rfl) (fun _ => rfl) s

theorem execSaveCompletion_keepsAngles (matched : Bool) (s : State) : s.outcomeKeeps (execSaveCompletion matched s) := by
  unfold execSaveCompletion
  split
  · exact State.outcomeKeeps_next (of_fxe rfl rfl)
  · exact State.outcomeKeeps_next (refl s)

theorem execRestart_keepsAngles (q : Request) (s : State) : s.outcomeKeeps (execRestart q s) :=
  State.outcomeKeeps_next (s.serveRestart_keepsAngles q)

theorem execClearShow_keepsAngles (q : Request) (s : State) : s.outcomeKeeps (execClearShow q s) := by
  unfold execClearShow
  refine State.outcomeKeeps_request (fun u _ => ?_) s
  exact u.clearShow_keepsAngles

/-! #### The tables -/

/-- The profile a payload names is the one its number byte gives, where that is below 16. -/
theorem profileField_val {q : Request} (h : u8 q.payload 0 < 16) : (profileField q).val = u8 q.payload 0 :=
  Nat.mod_eq_of_lt h

theorem execProfileLoad_keepsAngles (q : Request) (s : State) : s.outcomeKeeps (execProfileLoad q s) := by
  unfold execProfileLoad
  refine State.outcomeKeeps_request (fun u h => State.setProfile_keepsAngles ?_ _) s
  rw [firstFailing_eq_none_iff] at h
  simp only [profileChecks, tableChecks, List.forall_mem_cons, decide_eq_true_eq] at h
  obtain ⟨-, -, hn, hfree, -⟩ := h
  rw [profileField_val hn]
  simpa using hfree

theorem execProfileRemove_keepsAngles (q : Request) (s : State) : s.outcomeKeeps (execProfileRemove q s) := by
  unfold execProfileRemove
  refine State.outcomeKeeps_request (fun u h => State.setProfile_keepsAngles ?_ _) s
  rw [firstFailing_eq_none_iff] at h
  simp only [tableChecks, List.forall_mem_cons, decide_eq_true_eq] at h
  obtain ⟨-, -, hn, -, hfree, -⟩ := h
  rw [profileField_val hn]
  simpa using hfree

theorem execFixtureDefine_keepsAngles (q : Request) (s : State) : s.outcomeKeeps (execFixtureDefine q s) := by
  unfold execFixtureDefine
  exact State.outcomeKeeps_request (fun u h => State.defineFixture_keepsAngles _ (anglesOk_of_defineChecks h)) s

theorem execFixtureRemove_keepsAngles (q : Request) (s : State) : s.outcomeKeeps (execFixtureRemove q s) := by
  unfold execFixtureRemove
  exact State.outcomeKeeps_request (fun u _ => u.removeFixture_keepsAngles _) s

theorem execFixtureSlots_keepsAngles (q : Request) (s : State) : s.outcomeKeeps (execFixtureSlots q s) := by
  unfold execFixtureSlots
  exact State.outcomeKeeps_request (fun u _ => u.setFixtureSlots_keepsAngles _ _ _) s

theorem execGroupSet_keepsAngles (q : Request) (s : State) : s.outcomeKeeps (execGroupSet q s) := by
  unfold execGroupSet
  refine State.outcomeKeeps_request (fun u _ => ?_) s
  dsimp only
  exact u.setGroup_keepsAngles _ _

theorem execZoneSet_keepsAngles (q : Request) (s : State) : s.outcomeKeeps (execZoneSet q s) := by
  unfold execZoneSet
  exact State.outcomeKeeps_request (fun u _ => of_tables rfl rfl rfl) s

/-! #### Direct requests and overrides -/

theorem execAim_keepsAngles (q : Request) (s : State) : s.outcomeKeeps (execAim q s) := by
  unfold execAim
  refine State.outcomeKeeps_request (fun u _ => State.changeSelected_keepsAngles ?_ u q) s
  exact fun _ => ⟨rfl, rfl⟩

theorem execTint_keepsAngles (q : Request) (s : State) : s.outcomeKeeps (execTint q s) := by
  unfold execTint
  refine State.outcomeKeeps_request (fun u _ => State.changeSelected_keepsAngles ?_ u q) s
  exact fun _ => ⟨rfl, rfl⟩

theorem execLevel_keepsAngles (q : Request) (s : State) : s.outcomeKeeps (execLevel q s) := by
  unfold execLevel
  refine State.outcomeKeeps_request (fun u _ => State.changeSelected_keepsAngles ?_ u q) s
  exact fun _ => ⟨rfl, rfl⟩

theorem execPark_keepsAngles (q : Request) (s : State) : s.outcomeKeeps (execPark q s) := by
  unfold execPark
  refine State.outcomeKeeps_request (fun u _ => State.changeSelected_keepsAngles ?_ u q) s
  exact fun _ => ⟨rfl, rfl⟩

theorem execStop_keepsAngles (q : Request) (s : State) : s.outcomeKeeps (execStop q s) := by
  unfold execStop
  refine State.outcomeKeeps_request (fun u _ => State.changeSelected_keepsAngles ?_ u q) s
  exact fun _ => ⟨rfl, rfl⟩

theorem execDouse_keepsAngles (q : Request) (s : State) : s.outcomeKeeps (execDouse q s) := by
  unfold execDouse
  refine State.outcomeKeeps_request (fun u _ => State.changeSelected_keepsAngles ?_ u q) s
  exact fun _ => ⟨rfl, rfl⟩

theorem execRelease_keepsAngles (q : Request) (s : State) : s.outcomeKeeps (execRelease q s) := by
  unfold execRelease
  refine State.outcomeKeeps_request (fun u _ => State.changeSelected_keepsAngles ?_ u q) s
  exact fun _ => ⟨rfl, rfl⟩

/-! #### Cues, show time and the timeline -/

theorem execGo_keepsAngles (q : Request) (s : State) : s.outcomeKeeps (execGo q s) := by
  unfold execGo
  exact State.outcomeKeeps_request (fun u _ => Firing.walk_keepsAngles _ _ u 0 0) s

theorem execCueOpen_keepsAngles (q : Request) (s : State) : s.outcomeKeeps (execCueOpen q s) := by
  unfold execCueOpen
  refine State.outcomeKeeps_request (fun u _ => of_fxe ?_ ?_) s <;>
  · unfold State.openCue
    dsimp only
    split <;> simp

theorem execCuePart_keepsAngles (q : Request) (s : State) : s.outcomeKeeps (execCuePart q s) := by
  unfold execCuePart
  refine State.outcomeKeeps_request (fun u _ => ?_) s
  split
  · exact of_fxe rfl rfl
  · exact of_fxe (by simp [State.abortFull]) (by simp [State.abortFull])

theorem execCueDelete_keepsAngles (q : Request) (s : State) : s.outcomeKeeps (execCueDelete q s) := by
  unfold execCueDelete
  refine State.outcomeKeeps_request (fun u _ => ?_) s
  unfold State.deleteCue
  exact ite (of_fxe rfl rfl) (of_fxe rfl rfl)

theorem execShowTime_keepsAngles (q : Request) (s : State) : s.outcomeKeeps (execShowTime q s) := by
  unfold execShowTime
  exact State.outcomeKeeps_request (fun u _ => (u.jumpTo_keepsAngles _).trans (State.setRunning_keepsAngles _ _)) s

theorem execClockSet_keepsAngles (q : Request) (s : State) : s.outcomeKeeps (execClockSet q s) := by
  unfold execClockSet
  exact State.outcomeKeeps_request_of_fxe (fun _ => rfl) (fun _ => rfl) s

theorem execTimelineAdd_keepsAngles (q : Request) (s : State) : s.outcomeKeeps (execTimelineAdd q s) := by
  unfold execTimelineAdd
  exact State.outcomeKeeps_request_of_fxe (fun _ => rfl) (fun _ => rfl) s

theorem execTimelineRemove_keepsAngles (q : Request) (s : State) : s.outcomeKeeps (execTimelineRemove q s) := by
  unfold execTimelineRemove
  exact State.outcomeKeeps_request_of_fxe (fun _ => rfl) (fun _ => rfl) s

theorem execMarkReceived_keepsAngles (bytes : List Byte) (s : State) : s.outcomeKeeps (execMarkReceived bytes s) :=
  State.outcomeKeeps_next (foldl State.syncByte_keepsAngles bytes s)

theorem execMarkAbandoned_keepsAngles (s : State) : s.outcomeKeeps (execMarkAbandoned s) := by
  unfold execMarkAbandoned
  split
  · exact State.outcomeKeeps_next (refl s)
  · exact State.outcomeKeeps_next (of_fxe rfl rfl)

theorem execConfirmDeadline_keepsAngles (s : State) : s.outcomeKeeps (execConfirmDeadline s) := by
  unfold execConfirmDeadline
  split
  · exact State.outcomeKeeps_next (of_fxe rfl rfl)
  all_goals exact State.outcomeKeeps_next (refl s)

theorem execWatchDeadline_keepsAngles (s : State) : s.outcomeKeeps (execWatchDeadline s) := by
  unfold execWatchDeadline
  split
  · exact State.outcomeKeeps_next (of_fxe (by simp) (by simp))
  all_goals exact State.outcomeKeeps_next (refl s)

/-! #### Tracks and sticks -/

theorem execTrackBind_keepsAngles (q : Request) (s : State) : s.outcomeKeeps (execTrackBind q s) := by
  unfold execTrackBind
  exact State.outcomeKeeps_request (fun u _ => u.bindTrack_keepsAngles _ _) s

theorem execTrackPoints_keepsAngles (q : Request) (s : State) : s.outcomeKeeps (execTrackPoints q s) := by
  unfold execTrackPoints
  refine State.outcomeKeeps_request (fun u _ => ?_) s
  unfold State.appendPoints
  exact ite (of_fxe rfl rfl) (of_fxe rfl rfl)

theorem execTrackRelease_keepsAngles (q : Request) (s : State) : s.outcomeKeeps (execTrackRelease q s) := by
  unfold execTrackRelease
  exact State.outcomeKeeps_request (fun u _ => u.releaseTrack_keepsAngles _) s

theorem execStickSet_keepsAngles (q : Request) (s : State) : s.outcomeKeeps (execStickSet q s) := by
  unfold execStickSet
  exact State.outcomeKeeps_request_of_fxe (fun _ => rfl) (fun _ => rfl) s

theorem execStickCentre_keepsAngles (q : Request) (adc : Readings) (s : State) : s.outcomeKeeps (execStickCentre q adc s) := by
  unfold execStickCentre
  refine State.outcomeKeeps_request (fun u _ => ?_) s
  unfold State.centreStick
  dsimp only
  split <;> exact of_fxe (by simp) (by simp)

theorem execStickZero_keepsAngles (q : Request) (s : State) : s.outcomeKeeps (execStickZero q s) := by
  unfold execStickZero
  exact State.outcomeKeeps_request_of_fxe (fun _ => rfl) (fun _ => rfl) s

theorem execStickSample_keepsAngles (q : Request) (adc : Readings) (s : State) : s.outcomeKeeps (execStickSample q adc s) := by
  unfold execStickSample
  refine State.outcomeKeeps_request (fun u _ => ?_) s
  unfold State.sampleOnce
  exact of_fxe (by simp) (by simp)

/-! #### Lines -/

theorem execLineSet_keepsAngles (q : Request) (s : State) : s.outcomeKeeps (execLineSet q s) := by
  unfold execLineSet
  refine State.outcomeKeeps_request (fun u _ => ?_) s
  unfold State.setLine
  exact ite (of_fxe rfl rfl) (of_fxe (by simp) (by simp))

theorem execLinePin_keepsAngles (q : Request) (s : State) : s.outcomeKeeps (execLinePin q s) := by
  unfold execLinePin
  exact State.outcomeKeeps_request_of_fxe (fun _ => rfl) (fun _ => rfl) s

theorem execLineStatic_keepsAngles (q : Request) (s : State) : s.outcomeKeeps (execLineStatic q s) := by
  unfold execLineStatic
  exact State.outcomeKeeps_request_of_fxe (fun _ => rfl) (fun _ => rfl) s

theorem execFrameStart_keepsAngles (l : Fin 8) (s : State) : s.outcomeKeeps (execFrameStart l s) := by
  unfold execFrameStart
  split <;> exact State.outcomeKeeps_next (of_fxe rfl rfl)

theorem execFrameSent_keepsAngles (l : Fin 8) (s : State) : s.outcomeKeeps (execFrameSent l s) := by
  unfold execFrameSent
  split
  · exact State.outcomeKeeps_next (of_fxe (by simp [State.endFrame]) (by simp [State.endFrame]))
  · exact State.outcomeKeeps_next (refl s)

theorem execFaultInputAsserted_keepsAngles (l : Fin 8) (s : State) : s.outcomeKeeps (execFaultInputAsserted l s) := by
  unfold execFaultInputAsserted
  dsimp only
  split <;> exact State.outcomeKeeps_next (of_fxe (by simp) (by simp))

theorem execFaultInputReleased_keepsAngles (l : Fin 8) (s : State) : s.outcomeKeeps (execFaultInputReleased l s) := by
  unfold execFaultInputReleased
  exact State.outcomeKeeps_next (of_fxe rfl rfl)

/-! #### The evaluation pass -/

theorem execFixtureEvaluation_keepsAngles (s : State) : s.outcomeKeeps (execFixtureEvaluation s) := by
  unfold execFixtureEvaluation
  split
  · exact State.outcomeKeeps_next (s.evaluateNext_keepsAngles _)
  · exact State.outcomeKeeps_next (refl s)

theorem execPassCompletion_keepsAngles (s : State) : s.outcomeKeeps (execPassCompletion s) :=
  State.outcomeKeeps_next s.finishPass_keepsAngles

theorem execStepExpiry_keepsAngles (adc : Readings) (sampling : Nat) (s : State) : s.outcomeKeeps (execStepExpiry adc sampling s) := by
  unfold execStepExpiry
  refine State.outcomeKeeps_next (s.finishPass_keepsAngles.trans ?_)
  generalize s.finishPass = u
  have reached : u.keepsAngles (u.advanceTo (u.usOf u.scu.nextExpiry)) := of_fxe rfl rfl
  exact (reached.trans (State.expireWith_keepsAngles _ _ adc sampling)).trans
    (ite (State.completePass_keepsAngles _) (refl _))

/-- A command's next state keeps the angles, unless the command loads the show image. -/
theorem exec_keepsAngles (c : Instr) (s : State) (hl : c.loadsImage = false) : s.outcomeKeeps (exec c s) := by
  cases c with
  | powerOn straps => cases hl
  | resetPin straps => cases hl
  | frameReceived bytes => exact execFrameReceived_keepsAngles bytes s
  | replySent => exact execReplySent_keepsAngles s
  | unknownKind kind q => exact execUnknownKind_keepsAngles kind q s
  | unitQuery q => exact execUnitQuery_keepsAngles q s
  | noticePoll q => exact execNoticePoll_keepsAngles q s
  | stats q => exact execStats_keepsAngles q s
  | save q => exact execSave_keepsAngles q s
  | saveCompletion matched => exact execSaveCompletion_keepsAngles matched s
  | restart q => exact execRestart_keepsAngles q s
  | clearShow q => exact execClearShow_keepsAngles q s
  | profileLoad q => exact execProfileLoad_keepsAngles q s
  | profileRemove q => exact execProfileRemove_keepsAngles q s
  | profileRead q => exact execProfileRead_keepsAngles q s
  | fixtureDefine q => exact execFixtureDefine_keepsAngles q s
  | fixtureRemove q => exact execFixtureRemove_keepsAngles q s
  | fixtureSlots q => exact execFixtureSlots_keepsAngles q s
  | fixtureRead q => exact execFixtureRead_keepsAngles q s
  | groupSet q => exact execGroupSet_keepsAngles q s
  | groupRead q => exact execGroupRead_keepsAngles q s
  | zoneSet q => exact execZoneSet_keepsAngles q s
  | zoneRead q => exact execZoneRead_keepsAngles q s
  | aim q => exact execAim_keepsAngles q s
  | tint q => exact execTint_keepsAngles q s
  | level q => exact execLevel_keepsAngles q s
  | fixtureQuery q => exact execFixtureQuery_keepsAngles q s
  | park q => exact execPark_keepsAngles q s
  | stop q => exact execStop_keepsAngles q s
  | douse q => exact execDouse_keepsAngles q s
  | release q => exact execRelease_keepsAngles q s
  | go q => exact execGo_keepsAngles q s
  | cueOpen q => exact execCueOpen_keepsAngles q s
  | cuePart q => exact execCuePart_keepsAngles q s
  | cueDelete q => exact execCueDelete_keepsAngles q s
  | cueRead q => exact execCueRead_keepsAngles q s
  | showTime q => exact execShowTime_keepsAngles q s
  | clockSet q => exact execClockSet_keepsAngles q s
  | clockQuery q => exact execClockQuery_keepsAngles q s
  | timelineAdd q => exact execTimelineAdd_keepsAngles q s
  | timelineRemove q => exact execTimelineRemove_keepsAngles q s
  | timelineRead q => exact execTimelineRead_keepsAngles q s
  | trackBind q => exact execTrackBind_keepsAngles q s
  | trackPoints q => exact execTrackPoints_keepsAngles q s
  | trackRelease q => exact execTrackRelease_keepsAngles q s
  | trackQuery q => exact execTrackQuery_keepsAngles q s
  | stickSet q => exact execStickSet_keepsAngles q s
  | stickCentre q adc => exact execStickCentre_keepsAngles q adc s
  | stickZero q => exact execStickZero_keepsAngles q s
  | stickSample q adc => exact execStickSample_keepsAngles q adc s
  | stickQuery q => exact execStickQuery_keepsAngles q s
  | lineSet q => exact execLineSet_keepsAngles q s
  | linePin q => exact execLinePin_keepsAngles q s
  | lineStatic q => exact execLineStatic_keepsAngles q s
  | lineQuery q => exact execLineQuery_keepsAngles q s
  | lineImage q => exact execLineImage_keepsAngles q s
  | stepExpiry adc sampling => exact execStepExpiry_keepsAngles adc sampling s
  | fixtureEvaluation => exact execFixtureEvaluation_keepsAngles s
  | passCompletion => exact execPassCompletion_keepsAngles s
  | markReceived bytes => exact execMarkReceived_keepsAngles bytes s
  | markAbandoned => exact execMarkAbandoned_keepsAngles s
  | confirmDeadline => exact execConfirmDeadline_keepsAngles s
  | watchDeadline => exact execWatchDeadline_keepsAngles s
  | frameStart line => exact execFrameStart_keepsAngles line s
  | frameSent line => exact execFrameSent_keepsAngles line s
  | faultInputAsserted line => exact execFaultInputAsserted_keepsAngles line s
  | faultInputReleased line => exact execFaultInputReleased_keepsAngles line s
  | frameAbandoned => exact execFrameAbandoned_keepsAngles s

end Sys2Proof.Machine

/-! ### Every step -/

namespace Sys2Proof.Machine

/-- No request is read as a command that loads the show image. -/
theorem commandOf_loadsImage (kind : Byte) (q : Request) (adc : Readings) : (commandOf kind q adc).loadsImage = false := by
  unfold commandOf
  split <;> rfl

/-- The event that comes first is the one given as the best so far, or one of the list. -/
theorem earliest_mem (best : OwnEvent) (l : List OwnEvent) : earliest best l = best ∨ earliest best l ∈ l := by
  induction l generalizing best with
  | nil => exact .inl rfl
  | cons e l ih =>
    have h : earliest best (e :: l) = earliest (if e.due < best.due then e else best) l := rfl
    rcases ih (if e.due < best.due then e else best) with heq | hmem
    · rw [h, heq]
      split
      · exact .inr (List.mem_cons_self ..)
      · exact .inl rfl
    · exact .inr (h ▸ List.mem_cons_of_mem e hmem)

/-- The next event is one of the part's own. -/
theorem State.nextEvent_mem (s : State) : s.nextEvent ∈ s.ownEvents := by
  unfold State.nextEvent
  split
  · next h => simp [State.ownEvents] at h
  · next e rest h =>
    rw [h]
    rcases earliest_mem e rest with heq | hmem
    · rw [heq]
      exact List.mem_cons_self ..
    · exact List.mem_cons_of_mem e hmem

/-- No event of the part's own loads the show image. -/
theorem State.ownEvents_loadsImage (s : State) : ∀ e ∈ s.ownEvents, e.command.loadsImage = false := by
  have request : ∀ e ∈ s.requestEvent, e.command.loadsImage = false := by
    simp [State.requestEvent, commandOf_loadsImage]
  have pass : ∀ e ∈ s.passEvent, e.command.loadsImage = false := by
    intro e he
    obtain ⟨p, -, rfl⟩ := List.mem_map.mp he
    dsimp only
    split <;> rfl
  have deadline : ∀ e ∈ s.deadlineEvent, e.command.loadsImage = false := by
    unfold State.deadlineEvent
    split <;> simp [Instr.loadsImage]
  have mark : ∀ e ∈ s.markEvent, e.command.loadsImage = false := by
    unfold State.markEvent
    split <;> simp [Instr.loadsImage]
  have reply : ∀ e ∈ s.replyEvent, e.command.loadsImage = false := by
    unfold State.replyEvent
    split <;> simp [Instr.loadsImage]
  have line : ∀ l, ∀ e ∈ s.lineEvent l, e.command.loadsImage = false := by
    intro l
    unfold State.lineEvent
    split
    · simp [Instr.loadsImage]
    · split <;> simp [Instr.loadsImage]
  intro e he
  simp only [State.ownEvents, List.mem_append, List.mem_flatMap, List.mem_singleton] at he
  rcases he with (((((h | h) | h) | h) | h) | ⟨l, -, h⟩) | h
  · exact request e h
  · exact pass e h
  · exact deadline e h
  · exact mark e h
  · exact reply e h
  · exact line l e h
  · rw [h]
    rfl

/-- What the part does by itself keeps the angles. -/
theorem State.idle_keepsAngles (s : State) : s.outcomeKeeps s.idle := by
  unfold State.idle
  dsimp only
  split
  · exact exec_keepsAngles _ s (s.ownEvents_loadsImage _ s.nextEvent_mem)
  · exact State.outcomeKeeps_next (State.keepsAngles.of_fxe rfl rfl)

/-- Settles O26: each step either takes the front command, which is no image load, or what the part does by itself, and both
keep the angles and the rest of the queue. -/
theorem commandedAnglesStayInWindows : Obligations.CommandedAnglesStayInWindows := by
  intro s t hload hs hstep
  unfold step at hstep
  split at hstep
  · next c rest hq =>
    rw [hq, List.forall_mem_cons] at hload
    obtain ⟨hpending, hok⟩ := exec_keepsAngles c (s.withPending rest) hload.1 t hstep
    rw [hpending]
    exact ⟨hok hs, hload.2⟩
  · obtain ⟨hpending, hok⟩ := s.idle_keepsAngles t hstep
    rw [hpending]
    exact ⟨hok hs, hload⟩

end Sys2Proof.Machine

/-! ## PROFILE-REMOVE, the queries and the reads -/

namespace Sys2Proof.Machine

/-! ### The entry a payload names -/

/-- The entry that the first byte of a payload names in a table of `n` entries. -/
theorem ofNat_u8 {n : Nat} [NeZero n] {p : List Byte} {i : Fin n} (h : u8 p 0 = i.val) : Fin.ofNat n (u8 p 0) = i :=
  Fin.ext (by simp [h])

theorem profileField_eq {q : Request} {i : Fin 16} (h : u8 q.payload 0 = i.val) : profileField q = i := ofNat_u8 h

/-- The entry of the profile table that a payload names. -/
theorem profiles_profileField {q : Request} {i : Fin 16} (s : State) (h : u8 q.payload 0 = i.val) :
    s.fxe.profiles[profileField q] = s.fxe.profiles[i] :=
  congrArg (fun k : Fin 16 => s.fxe.profiles[k]) (profileField_eq h)

theorem fixtureField_eq {q : Request} {i : Fin 128} (h : u8 q.payload 0 = i.val) : fixtureField q = i := ofNat_u8 h

theorem zoneField_eq {q : Request} {i : Fin 16} (h : u8 q.payload 0 = i.val) : zoneField q = i := ofNat_u8 h

theorem cueField_eq {q : Request} {i : Fin 96} (h : u8 q.payload 0 = i.val) : cueField q = i := ofNat_u8 h

theorem stickField_eq {q : Request} {i : Fin 2} (h : u8 q.payload 0 = i.val) : stickField q = i := ofNat_u8 h

theorem lineField_eq {q : Request} {i : Fin 8} (h : u8 q.payload 0 = i.val) : lineField q = i := ofNat_u8 h

/-- An index written as the first byte of a payload is read as it is. -/
theorem u8_index {n : Nat} {p rest : List Byte} (i : Fin n) (hn : n ≤ 256) (h : p = byteOf i.val :: rest) : u8 p 0 = i.val := by
  rw [h, u8_byteOf_cons _ _ (by omega)]

/-- A payload written out has the length it shows. -/
theorem hasLength_of_eq {q : Request} {p : List Byte} (h : q.payload = p) : hasLength q p.length = true := by simp [hasLength, h]

/-! ### PROFILE-REMOVE -/

/-- Settles O22, check by check in the order of R5. -/
theorem profileRemoveChecks : Obligations.ProfileRemoveChecks := by
  intro s q b hserving hsaving hpayload
  have hlength : hasLength q 1 = true := hasLength_of_eq hpayload
  have hb : u8 q.payload 0 = b.toNat := by simp [hpayload, u8]
  have passed : ∀ own, firstFailing (tableChecks (hasLength q 1) s own) = firstFailing own :=
    fun own => tableChecks_passed hlength hsaving
  refine ⟨fun hbig => ?_, fun n hn => ?_⟩
  · have hcheck : ¬ u8 q.payload 0 < 16 := by omega
    exact congrArg _ (State.serve_refused hserving (by rw [passed]; simp [hcheck]))
  · rw [hn] at hb
    have hprofile := profiles_profileField s hb
    refine ⟨fun hnone => ?_, fun hsome hused => ?_, fun hsome hfree => ?_⟩
    · exact congrArg _ (State.serve_refused hserving (by rw [passed, hprofile, hnone]; simp [hb]))
    · have hinUse := (s.profileInUse_iff n).mpr hused
      exact congrArg _ (State.serve_refused hserving (by rw [passed, hprofile, hsome]; simp [hb, hinUse]))
    · have hinUse := (s.profileInUse_eq_false_iff n).mpr hfree
      refine (congrArg _ (State.serve_accepted hserving (by rw [passed, hprofile, hsome]; simp [hb, hinUse]))).trans ?_
      rw [profileField_eq hb]
      rfl

/-! ### Queries and reads -/

section
variable {s : State} {q : Request}

theorem execUnitQuery_answer (h : s.serving 0x01 q) (hp : q.payload = []) :
    execUnitQuery q s = .next (s.answered 0x01 q (.ok s.unitData)) :=
  congrArg _ (State.serve_accepted h (by simp [hasLength, hp]))

theorem execProfileRead_answer {i : Fin 16} {p : Profile} (h : s.serving 0x12 q) (hp : q.payload = [byteOf i.val])
    (hi : s.fxe.profiles[i] = some p) : execProfileRead q s = .next (s.answered 0x12 q (.ok p.bytes)) := by
  have hu := u8_index i (by decide) hp
  have hprofile := (profiles_profileField s hu).trans hi
  have hlength : hasLength q 1 = true := hasLength_of_eq hp
  unfold execProfileRead
  rw [State.serve_accepted h (by simp [hlength, hu, hprofile]), hprofile]
  rfl

/-- The checks of a read that names one defined fixture. -/
theorem fixtureChecks_passed {i : Fin 128} {f : Fixture} (hu : u8 q.payload 0 = i.val) (hf : s.fixture? i = some f) :
    firstFailing (fixtureChecks q s) = none := by
  have hdefined : s.isDefined i.val = true := (s.isDefined_iff i).mpr (by simp [hf])
  simp [fixtureChecks, hu, hdefined]

theorem execFixtureRead_answer {i : Fin 128} {f : Fixture} (h : s.serving 0x16 q) (hp : q.payload = [byteOf i.val])
    (hf : s.fixture? i = some f) : execFixtureRead q s = .next (s.answered 0x16 q (.ok f.readData)) := by
  have hu := u8_index i (by decide) hp
  have hlength : hasLength q 1 = true := hasLength_of_eq hp
  unfold execFixtureRead
  rw [State.serve_accepted h (by rw [hlength, firstFailing_true, fixtureChecks_passed hu hf])]
  simp [fixtureField_eq hu, hf]

theorem execGroupRead_answer {g : Fin 32} (h : s.serving 0x18 q) (hp : q.payload = [byteOf g.val]) :
    execGroupRead q s = .next (s.answered 0x18 q (.ok (mapBytes 16 (s.memberMap g.val)))) := by
  have hu := u8_index g (by decide) hp
  have hlength : hasLength q 1 = true := hasLength_of_eq hp
  unfold execGroupRead
  rw [State.serve_accepted h (by simp [hlength, hu]), hu]

theorem execZoneRead_answer {i : Fin 16} (h : s.serving 0x1A q) (hp : q.payload = [byteOf i.val]) :
    execZoneRead q s = .next (s.answered 0x1A q (.ok (s.fxe.zones[i]).bytes)) := by
  have hu := u8_index i (by decide) hp
  have hlength : hasLength q 1 = true := hasLength_of_eq hp
  unfold execZoneRead
  rw [State.serve_accepted h (by simp [hlength, hu])]
  simp only [zoneField_eq hu]

theorem execFixtureQuery_answer {i : Fin 128} {f : Fixture} (h : s.serving 0x23 q) (hp : q.payload = [byteOf i.val])
    (hf : s.fixture? i = some f) : execFixtureQuery q s = .next (s.answered 0x23 q (.ok f.run.queryData)) := by
  have hu := u8_index i (by decide) hp
  have hlength : hasLength q 1 = true := hasLength_of_eq hp
  unfold execFixtureQuery
  rw [State.serve_accepted h (by rw [hlength, firstFailing_true, fixtureChecks_passed hu hf])]
  simp [fixtureField_eq hu, hf]

theorem execCueRead_answer {c : Fin 96} {first : Byte} (h : s.serving 0x33 q) (hp : q.payload = [byteOf c.val, first])
    (hfirst : first.toNat ≤ 63) : execCueRead q s = .next (s.answered 0x33 q (.ok (s.cueData c first.toNat))) := by
  have hu := u8_index c (by decide) hp
  have hv : u8 q.payload 1 = first.toNat := by simp [hp, u8]
  have hlength : hasLength q 2 = true := hasLength_of_eq hp
  unfold execCueRead
  rw [State.serve_accepted h (by simp [hlength, hu, hv, hfirst]), cueField_eq hu, hv]

theorem execClockQuery_answer (h : s.serving 0x3A q) (hp : q.payload = []) :
    execClockQuery q s = .next (s.answered 0x3A q (.ok s.clockData)) :=
  congrArg _ (State.serve_accepted h (by simp [hasLength, hp]))

theorem execTimelineRead_answer {first : Byte} (h : s.serving 0x3D q) (hp : q.payload = [first]) :
    execTimelineRead q s = .next (s.answered 0x3D q (.ok (s.timelineData first.toNat))) := by
  have hu : u8 q.payload 0 = first.toNat := by simp [hp, u8]
  have hle : first.toNat ≤ 255 := by omega
  have hlength : hasLength q 1 = true := hasLength_of_eq hp
  unfold execTimelineRead
  rw [State.serve_accepted h (by simp [hlength, hu, hle]), hu]

theorem execTrackQuery_answer {k : Fin 4} (h : s.serving 0x43 q) (hp : q.payload = [byteOf k.val]) :
    execTrackQuery q s = .next (s.answered 0x43 q (.ok ((s.tku[k]).queryData (s.members k).length))) := by
  have hu := u8_index k (by decide) hp
  have hlength : hasLength q 1 = true := hasLength_of_eq hp
  unfold execTrackQuery
  dsimp only
  rw [State.serve_accepted h (by simp [hlength, hu])]
  simp only [ofNat_u8 hu]

theorem execStickQuery_answer {i : Fin 2} (h : s.serving 0x4C q) (hp : q.payload = [byteOf i.val]) :
    execStickQuery q s = .next (s.answered 0x4C q (.ok (s.sku.sticks[i]).queryData)) := by
  have hu := u8_index i (by decide) hp
  have hlength : hasLength q 1 = true := hasLength_of_eq hp
  unfold execStickQuery
  rw [State.serve_accepted h (by simp [hlength, hu, Nat.le_of_lt_succ i.isLt])]
  simp only [stickField_eq hu]

theorem execLineQuery_answer {l : Fin 8} (h : s.serving 0x53 q) (hp : q.payload = [byteOf l.val]) :
    execLineQuery q s = .next (s.answered 0x53 q (.ok ((s.lnu[l]).queryData (s.fixturesOn l).length))) := by
  have hu := u8_index l (by decide) hp
  have hlength : hasLength q 1 = true := hasLength_of_eq hp
  unfold execLineQuery
  rw [State.serve_accepted h (by simp [hlength, hu])]
  simp only [lineField_eq hu]

theorem execLineImage_answer {l : Fin 8} {slot n : Nat} {static : Bool} (h : s.serving 0x54 q)
    (hp : q.payload = [byteOf l.val] ++ be16 slot ++ [byteOf n, boolByte static]) (hslot : 1 ≤ slot) (hn : 1 ≤ n)
    (hn' : n ≤ 200) (hend : slot + n - 1 ≤ 512) :
    execLineImage q s = .next (s.answered 0x54 q
      (.ok (readSlots (if static then (s.lnu[l]).statics else (s.lnu[l]).latest) (slot - 1) n))) := by
  have hu := u8_index l (by decide) hp
  have hu1 : u16 q.payload 1 = slot := by
    have : u16 q.payload 1 = slot % 65536 := by
      rw [hp, show 1 = 1 + 0 from rfl, ← u16_drop]
      exact u16_be16 slot _
    omega
  have hu3 : u8 q.payload 3 = n := by simp [hp, be16, u8, byteOf_toNat]; omega
  have hu4 : u8 q.payload 4 = if static then 1 else 0 := by cases static <;> simp [hp, be16, u8, boolByte]
  have hlength : hasLength q 5 = true := hasLength_of_eq hp
  unfold execLineImage
  dsimp only
  rw [hu1, hu3, hu4]
  rw [State.serve_accepted h (by
    have := l.isLt
    cases static <;> simp [firstFailing_eq_none_iff, hlength, hu] <;> omega)]
  simp only [lineField_eq hu]
  cases static <;> rfl

end

/-- Settles O21: each query and read passes its checks and answers its data. -/
theorem readsChangeNothing : Obligations.ReadsChangeNothing := by
  intro s q
  refine ⟨fun h hp => ?_, fun i p h hp hi => execProfileRead_answer h hp hi, fun i f h hp hf => execFixtureRead_answer h hp hf,
    fun g h hp => execGroupRead_answer h hp, fun i h hp => execZoneRead_answer h hp,
    fun i f h hp hf => execFixtureQuery_answer h hp hf, fun c first h hp hfirst => execCueRead_answer h hp hfirst,
    fun h hp => execClockQuery_answer h hp, fun first h hp => execTimelineRead_answer h hp,
    fun k h hp => execTrackQuery_answer h hp, fun i h hp => execStickQuery_answer h hp,
    fun l h hp => execLineQuery_answer h hp,
    fun l slot n static h hp hslot hn hn' hend => execLineImage_answer h hp hslot hn hn' hend⟩
  refine (execUnitQuery_answer h hp).trans ?_
  cases hsaving : s.ims.saving <;> cases hload : s.ims.lastLoadValid <;> simp [State.unitData, boolByte, hsaving, hload]

end Sys2Proof.Machine

/-! ## Counts and the aim solution -/

namespace Sys2Proof.Machine

/-! ### Counts (R22) -/

/-- Half-up rounding rises with its numerator. -/
theorem halfUp_le_halfUp {m n d : Int} (hd : 0 < d) (h : m ≤ n) : halfUp m d ≤ halfUp n d :=
  Int.ediv_le_ediv (by omega) (by omega)

/-- Half-up rounding of a whole quotient is exact. -/
theorem halfUp_mul (k : Int) {d : Int} (hd : 0 < d) : halfUp (d * k) d = k := by
  have split : 2 * (d * k) + d = d + 2 * d * k := by ring
  rw [halfUp, split, Int.add_mul_ediv_left _ _ (by omega), Int.ediv_eq_zero_of_lt (by omega) (by omega), zero_add]

/-- Half-up rounding is off by at most half a unit. -/
theorem halfUp_nearest (n : Int) {d : Int} (hd : 0 < d) : 2 * (d * halfUp n d - n).natAbs ≤ d.toNat := by
  obtain ⟨m, rfl⟩ := Int.eq_ofNat_of_zero_le hd.le
  obtain ⟨hlo, hhi⟩ := half_bounds n m (by omega)
  unfold halfUp
  generalize (m : Int) * _ = product at hlo hhi ⊢
  omega

/-- The counts of an angle of the range, before they are read as a natural number: from 0 to 65535. -/
theorem halfUp_counts_bounds {w : Window} {a : Int} (hw : w.lo < w.hi) (ha : w.holds a) :
    0 ≤ halfUp ((a - w.lo) * 65535) (w.hi - w.lo) ∧ halfUp ((a - w.lo) * 65535) (w.hi - w.lo) ≤ 65535 := by
  have hd : 0 < w.hi - w.lo := by omega
  obtain ⟨hlo, hhi⟩ := ha
  constructor
  · calc 0 = halfUp ((w.hi - w.lo) * 0) (w.hi - w.lo) := (halfUp_mul 0 hd).symm
      _ ≤ _ := halfUp_le_halfUp hd (by omega)
  · calc _ ≤ halfUp ((w.hi - w.lo) * 65535) (w.hi - w.lo) := halfUp_le_halfUp hd (by omega)
      _ = 65535 := halfUp_mul 65535 hd

/-- Settles O32: the counts are the half-up rounding of the share of the range, whose ends are exact. -/
theorem countsSpanTheRange : Obligations.CountsSpanTheRange := by
  intro w a b hw ha hb
  have hd : 0 < w.hi - w.lo := by omega
  obtain ⟨h0, h1⟩ := halfUp_counts_bounds hw ha
  refine ⟨?_, ?_, ?_, fun hab => ?_, ?_⟩
  · rw [countsOf, show (w.lo - w.lo) * 65535 = (w.hi - w.lo) * 0 by ring, halfUp_mul 0 hd]
    rfl
  · rw [countsOf, halfUp_mul 65535 hd]
    rfl
  · unfold countsOf
    omega
  · exact Int.toNat_le_toNat (halfUp_le_halfUp hd (by omega))
  · have hx : (countsOf w a : Int) = halfUp ((a - w.lo) * 65535) (w.hi - w.lo) := Int.toNat_of_nonneg h0
    rw [hx, mul_comm (halfUp _ _)]
    exact halfUp_nearest _ hd

/-! ### The order of the candidates (R17, R18) -/

/-- The candidate φ0 + 32768·j of R17. -/
def candidateAt (base theta j : Int) : Angles := { pan := base + j * 32768, tilt := if j % 2 = 0 then theta else -theta }

/-- What the three rules of R17 compare, in their order: the distance to the reference pan, the sign of the tilt, the pan. -/
def choiceKey (ref : Int) (c : Angles) : Nat ×ₗ Nat ×ₗ Int :=
  toLex ((c.pan - ref).natAbs, toLex (if 0 ≤ c.tilt then 0 else 1, c.pan))

/-- The order of R17 in the words of the spec. -/
theorem choiceKey_lt_iff (ref : Int) (c d : Angles) : choiceKey ref c < choiceKey ref d ↔
    (c.pan - ref).natAbs < (d.pan - ref).natAbs ∨
      (c.pan - ref).natAbs = (d.pan - ref).natAbs ∧
        ((0 ≤ c.tilt ∧ d.tilt < 0) ∨ ((0 ≤ c.tilt ↔ 0 ≤ d.tilt) ∧ c.pan < d.pan)) := by
  simp only [choiceKey, Prod.Lex.toLex_lt_toLex]
  by_cases hc : 0 ≤ c.tilt <;> by_cases hd : 0 ≤ d.tilt <;> simp [hc, hd] <;> omega

/-- The model's choice between two candidates is that order. -/
theorem chosenBefore_iff (ref : Int) (c d : Angles) : chosenBefore ref c d = true ↔ choiceKey ref c < choiceKey ref d := by
  rw [choiceKey_lt_iff]
  unfold chosenBefore
  dsimp only
  split_ifs with hdistance hsign
  · simp only [decide_eq_true_eq]
    omega
  · simp only [bne_iff_ne, ne_eq, decide_eq_decide] at hsign
    simp only [decide_eq_true_eq]
    omega
  · simp only [bne_iff_ne, ne_eq, decide_eq_decide, not_not] at hsign
    simp only [decide_eq_true_eq]
    omega

/-- Candidates that no rule of R17 tells apart have one pan. -/
theorem pan_eq_of_choiceKey_eq {ref : Int} {c d : Angles} (h : choiceKey ref c = choiceKey ref d) : c.pan = d.pan := by
  simp only [choiceKey, toLex_inj, Prod.mk.injEq] at h
  exact h.2.2

/-- What R18 compares: the sum of the violations, then what R17 compares. -/
def fallbackKey (pan tilt : Window) (ref : Int) (c : Angles) : Int ×ₗ Nat ×ₗ Nat ×ₗ Int :=
  toLex (violationSum pan tilt c, choiceKey ref c)

theorem fallbackKey_lt_iff (pan tilt : Window) (ref : Int) (c d : Angles) :
    fallbackKey pan tilt ref c < fallbackKey pan tilt ref d ↔
      violationSum pan tilt c < violationSum pan tilt d ∨
        violationSum pan tilt c = violationSum pan tilt d ∧ choiceKey ref c < choiceKey ref d :=
  Prod.Lex.toLex_lt_toLex

/-- The model's choice between two candidates outside the windows is that order. -/
theorem fallbackBefore_iff (pan tilt : Window) (ref : Int) (c d : Angles) :
    (if violationSum pan tilt c ≠ violationSum pan tilt d then decide (violationSum pan tilt c < violationSum pan tilt d)
      else chosenBefore ref c d) = true ↔ fallbackKey pan tilt ref c < fallbackKey pan tilt ref d := by
  rw [fallbackKey_lt_iff, ← chosenBefore_iff]
  split
  · next hne => simp [hne]
  · next heq => simp [not_not.mp heq]

/-- The first of an empty list is none, and of no other. -/
theorem firstBy_eq_none_iff (before : Angles → Angles → Bool) (l : List Angles) : firstBy before l = none ↔ l = [] := by
  cases l with
  | nil => simp [firstBy]
  | cons c rest =>
    simp only [firstBy]
    split <;> simp

/-- The first of a list by an order that compares keys has the least key of the list. -/
theorem firstBy_least {κ : Type} [LinearOrder κ] {key : Angles → κ} {before : Angles → Angles → Bool}
    (hb : ∀ c d, before c d = true ↔ key c < key d) {l : List Angles} {m : Angles} (h : firstBy before l = some m) :
    m ∈ l ∧ ∀ d ∈ l, key m ≤ key d := by
  induction l generalizing m with
  | nil => cases h
  | cons c rest ih =>
    unfold firstBy at h
    split at h
    · next hnone =>
      cases h
      rw [firstBy_eq_none_iff] at hnone
      simp [hnone]
    · next d hd =>
      obtain ⟨hmem, hleast⟩ := ih hd
      cases h
      by_cases hlt : key d < key c
      · rw [if_pos ((hb d c).mpr hlt)]
        refine ⟨List.mem_cons_of_mem c hmem, List.forall_mem_cons.mpr ⟨hlt.le, hleast⟩⟩
      · rw [if_neg (fun h => hlt ((hb d c).mp h))]
        refine ⟨List.mem_cons_self .., List.forall_mem_cons.mpr ⟨le_refl _, fun x hx => ?_⟩⟩
        exact (not_lt.mp hlt).trans (hleast x hx)

/-! ### The candidates (R17) -/

/-- The listed candidates are those from two below the pan window to two above it. -/
theorem mem_candidates (base theta : Int) (pan : Window) (c : Angles) : c ∈ candidates base theta pan ↔
    ∃ j, (pan.lo - base) / 32768 - 2 ≤ j ∧ j ≤ (pan.hi - base) / 32768 + 3 ∧ c = candidateAt base theta j := by
  simp only [candidates, List.bind_eq_flatMap, List.pure_def, List.mem_map, List.mem_flatMap, List.mem_range,
    List.mem_singleton]
  constructor
  · rintro ⟨_, ⟨i, hi, rfl⟩, rfl⟩
    exact ⟨_, by omega, by omega, rfl⟩
  · rintro ⟨j, hlo, hhi, rfl⟩
    refine ⟨_, ⟨(j - ((pan.lo - base) / 32768 - 2)).toNat, by omega, rfl⟩, ?_⟩
    rw [show (pan.lo - base) / 32768 - 2 + ((j - ((pan.lo - base) / 32768 - 2)).toNat : Int) = j by omega]
    rfl

/-- The model's window test is that of the spec. -/
theorem isInside_iff (pan tilt : Window) (c : Angles) : isInside pan tilt c = true ↔ pan.holds c.pan ∧ tilt.holds c.tilt := by
  simp [isInside, Window.holds, and_assoc]

/-- A candidate inside the windows is listed. -/
theorem candidateAt_mem_of_inside {base theta j : Int} {pan tilt : Window}
    (h : pan.holds (candidateAt base theta j).pan ∧ tilt.holds (candidateAt base theta j).tilt) :
    candidateAt base theta j ∈ (candidates base theta pan).filter (isInside pan tilt) := by
  refine List.mem_filter.mpr ⟨(mem_candidates ..).mpr ⟨j, ?_, ?_, rfl⟩, (isInside_iff ..).mpr h⟩ <;>
  · obtain ⟨⟨hlo, hhi⟩, -⟩ := h
    simp only [candidateAt] at hlo hhi
    omega

/-- Two candidates differ in what the rules compare. -/
theorem choiceKey_candidateAt_ne (ref base theta : Int) {i j : Int} (h : i ≠ j) :
    choiceKey ref (candidateAt base theta j) ≠ choiceKey ref (candidateAt base theta i) := by
  intro heq
  have := pan_eq_of_choiceKey_eq heq
  simp only [candidateAt] at this
  omega

/-- A candidate that is not listed violates the windows by more than a listed one: the one next to it toward the pan window with
the same tilt. -/
theorem exists_listed_less_violation {base theta i : Int} {pan : Window} (tilt : Window) (hpan : pan.lo ≤ pan.hi)
    (hi : ¬ ((pan.lo - base) / 32768 - 2 ≤ i ∧ i ≤ (pan.hi - base) / 32768 + 3)) :
    ∃ c ∈ candidates base theta pan, violationSum pan tilt c < violationSum pan tilt (candidateAt base theta i) := by
  have nearer : ∀ j, j % 2 = i % 2 → violation pan (base + j * 32768) < violation pan (base + i * 32768) →
      violationSum pan tilt (candidateAt base theta j) < violationSum pan tilt (candidateAt base theta i) := by
    intro j hparity hless
    simp only [violationSum, candidateAt, hparity]
    omega
  by_cases hlow : i < (pan.lo - base) / 32768 - 2
  · refine ⟨_, (mem_candidates ..).mpr ⟨(pan.lo - base) / 32768 - 2 + ((pan.lo - base) / 32768 - i) % 2, ?_, ?_, rfl⟩,
      nearer _ ?_ ?_⟩
    · omega
    · omega
    · omega
    · unfold violation
      split_ifs <;> omega
  · refine ⟨_, (mem_candidates ..).mpr ⟨(pan.hi - base) / 32768 + 3 - (i - ((pan.hi - base) / 32768 + 3)) % 2, ?_, ?_, rfl⟩,
      nearer _ ?_ ?_⟩
    · omega
    · omega
    · omega
    · unfold violation
      split_ifs <;> omega

/-! ### The aim solution -/

section
variable {base theta ref : Int} {pan tilt : Window}

/-- With a listed candidate inside the windows, the solution is the first of them. -/
theorem chooseSolution_of_some {c : Angles}
    (h : firstBy (chosenBefore ref) ((candidates base theta pan).filter (isInside pan tilt)) = some c) :
    chooseSolution base theta pan tilt ref = { angles := c, fallback := false } := by
  unfold chooseSolution
  simp [h]

/-- With none of them inside, the solution is the clamp of the listed candidate with the least key of R18. -/
theorem chooseSolution_of_none (hpan : pan.lo ≤ pan.hi)
    (h : firstBy (chosenBefore ref) ((candidates base theta pan).filter (isInside pan tilt)) = none) :
    ∃ c ∈ candidates base theta pan,
      chooseSolution base theta pan tilt ref =
        { angles := { pan := clampTo pan.lo pan.hi c.pan, tilt := clampTo tilt.lo tilt.hi c.tilt }, fallback := true } ∧
      ∀ d ∈ candidates base theta pan, fallbackKey pan tilt ref c ≤ fallbackKey pan tilt ref d := by
  unfold chooseSolution
  simp only [h]
  split
  · next c hc =>
    obtain ⟨hmem, hleast⟩ := firstBy_least (fallbackBefore_iff pan tilt ref) hc
    exact ⟨c, hmem, rfl, hleast⟩
  · next hnone =>
    have listed : candidateAt base theta ((pan.lo - base) / 32768) ∈ candidates base theta pan :=
      (mem_candidates ..).mpr ⟨_, by omega, by omega, rfl⟩
    rw [(firstBy_eq_none_iff _ _).mp hnone] at listed
    cases listed

end

/-- Settles O31: the listed candidates hold every candidate inside the windows and every one of least violation, and the first of
a list has its least key. -/
theorem aimSolutionIsBestCandidate : Obligations.AimSolutionIsBestCandidate := by
  intro base theta pan tilt ref hpan htilt cand inside before sol
  have hcand : ∀ j, cand j = candidateAt base theta j := fun j => rfl
  have hbefore : ∀ c d, before c d ↔ choiceKey ref c < choiceKey ref d := fun c d => (choiceKey_lt_iff ref c d).symm
  cases hfirst : firstBy (chosenBefore ref) ((candidates base theta pan).filter (isInside pan tilt)) with
  | some c =>
    have hsol : sol = { angles := c, fallback := false } := chooseSolution_of_some hfirst
    obtain ⟨hmem, hleast⟩ := firstBy_least (chosenBefore_iff ref) hfirst
    obtain ⟨hlisted, hin⟩ := List.mem_filter.mp hmem
    obtain ⟨j, -, -, rfl⟩ := (mem_candidates ..).mp hlisted
    have hj : inside (cand j) := (isInside_iff ..).mp hin
    rw [hsol]
    refine ⟨⟨fun _ => ⟨j, hj⟩, fun _ => rfl⟩, fun _ => ⟨j, rfl, hj, fun i hij hi => ?_⟩, fun h => by cases h⟩
    rw [hbefore]
    exact lt_of_le_of_ne (hleast _ (candidateAt_mem_of_inside hi)) (choiceKey_candidateAt_ne ref base theta hij)
  | none =>
    obtain ⟨c, hlisted, hsol, hleast⟩ := chooseSolution_of_none hpan hfirst
    obtain ⟨j, -, -, rfl⟩ := (mem_candidates ..).mp hlisted
    have outside : ¬ ∃ i, inside (cand i) := by
      rintro ⟨i, hi⟩
      have := candidateAt_mem_of_inside hi
      rw [(firstBy_eq_none_iff _ _).mp hfirst] at this
      cases this
    rw [show sol = _ from hsol]
    refine ⟨⟨fun h => (by cases h), fun h => absurd h outside⟩, fun h => (by cases h), fun _ => ⟨j, rfl, fun i hij => ?_⟩⟩
    rw [hbefore, ← fallbackKey_lt_iff, hcand, hcand]
    by_cases hi : (pan.lo - base) / 32768 - 2 ≤ i ∧ i ≤ (pan.hi - base) / 32768 + 3
    · refine lt_of_le_of_ne (hleast _ ((mem_candidates ..).mpr ⟨i, hi.1, hi.2, rfl⟩)) fun heq => ?_
      exact choiceKey_candidateAt_ne ref base theta hij (congrArg (fun k => (ofLex k).2) heq)
    · obtain ⟨d, hd, hless⟩ := exists_listed_less_violation tilt hpan hi
      exact (hleast d hd).trans_lt ((fallbackKey_lt_iff ..).mpr (.inl hless))

end Sys2Proof.Machine

/-! ## The tables of the fixture engine -/

namespace Sys2Proof.Machine

/-! ### Next images -/

/-- An index lies in a footprint. -/
theorem covers_iff (start n k : Nat) : covers start n k = true ↔ start - 1 ≤ k ∧ k < start - 1 + n := by simp [covers]

/-- The next image after values have been written into it. -/
theorem Line.writeNext_next (l : Line) (slot : Nat) (values : List Byte) (k : Nat) (h : k < 512) :
    (l.writeNext slot values).next[k] =
      if covers slot values.length k then values.getD (k - (slot - 1)) 0 else l.next[k] := by
  simp only [Line.writeNext, writeSlots_getElem _ _ _ _ h, covers_iff]

/-- The next image after the line static values have gone back into some of its slots (R9, R10). -/
theorem Line.clearNext_next (l : Line) (slot n k : Nat) (h : k < 512) :
    (l.clearNext slot n).next[k] = if covers slot n k then l.statics.getD k 0 else l.next[k] := by
  rw [Line.clearNext, Line.writeNext_next _ _ _ _ h, readSlots_length]
  split
  · next hc =>
    rw [covers_iff] at hc
    rw [readSlots_getD _ _ _ _ (by omega), Nat.add_sub_cancel' hc.1]
  · rfl

/-- A slot of an image, read with a default. -/
theorem image_getD (img : Vector Byte 512) {k : Nat} (h : k < 512) : img.getD k 0 = img[k] := by
  simp [Vector.getD, h]

/-- A state's own next images. -/
theorem State.nextImages_refl (s : State) : s.nextImages s fun l k => (s.lnu[l]).next.getD k 0 :=
  fun _ => ⟨rfl, fun _ h => (image_getD _ h).symm⟩

/-- Next images are a matter of the lines alone. -/
theorem State.nextImages_of_lnu {s t u : State} {v : Fin 8 → Nat → Byte} (h : s.nextImages t v) (hl : u.lnu = t.lnu) :
    s.nextImages u v := by
  unfold State.nextImages
  rw [hl]
  exact h

/-- Next images are a matter of their 512 slots. -/
theorem State.nextImages_congr {s t : State} {v w : Fin 8 → Nat → Byte} (h : s.nextImages t v)
    (hv : ∀ l k, k < 512 → v l k = w l k) : s.nextImages t w :=
  fun l => ⟨(h l).1, fun k hk => ((h l).2 k hk).trans (hv l k hk)⟩

/-- A change of one line's next image. -/
theorem State.nextImages_modifyLine {s t : State} {v : Fin 8 → Nat → Byte} (h : s.nextImages t v) (m : Fin 8)
    (f : Line → Line) (hf : ∀ x, f x = { x with next := (f x).next }) (w : Nat → Byte)
    (hw : ∀ (k : Nat) (hk : k < 512), (f t.lnu[m]).next[k] = w k) :
    s.nextImages (t.modifyLine m f) fun l k => if l = m then w k else v l k := by
  intro l
  obtain ⟨hline, hslots⟩ := h l
  by_cases hl : l = m
  · subst hl
    have hset : (t.modifyLine l f).lnu[l] = f t.lnu[l] := by simp
    rw [hset]
    refine ⟨?_, fun k hk => by simpa using hw k hk⟩
    rw [hf, hline]
  · have hset : (t.modifyLine m f).lnu[l] = t.lnu[l] := by
      have : (m : Nat) ≠ l := fun e => hl (Fin.ext e.symm)
      simp [this]
    rw [hset]
    refine ⟨hline, fun k hk => ?_⟩
    simp only [hset, if_neg hl]
    exact hslots k hk

/-- The static slot values of a fixture go into its footprint. -/
theorem State.nextImages_writeStatics {s t : State} {v : Fin 8 → Nat → Byte} (h : s.nextImages t v) (f : Fixture) :
    s.nextImages (t.writeStatics f) fun l k =>
      if l = f.config.line ∧ covers f.config.start f.statics.length k then f.statics.getD (k - (f.config.start - 1)) 0
      else v l k := by
  have written := State.nextImages_modifyLine h f.config.line (fun l => l.writeNext f.config.start f.statics) (fun _ => rfl)
    (fun k => if covers f.config.start f.statics.length k then f.statics.getD (k - (f.config.start - 1)) 0
      else v f.config.line k)
    (fun k hk => by rw [Line.writeNext_next _ _ _ _ hk, (h f.config.line).2 k hk])
  refine State.nextImages_congr written fun l k _ => ?_
  by_cases hl : l = f.config.line <;> simp [hl]

/-- The line static values go back over the footprint of a configuration. -/
theorem State.nextImages_clearFootprint (s : State) (c : FixtureConfig) :
    s.nextImages (s.clearFootprint c) fun l k =>
      if l = c.line ∧ covers c.start (s.footprint c) k then (s.lnu[l]).statics.getD k 0 else (s.lnu[l]).next.getD k 0 := by
  have cleared := State.nextImages_modifyLine s.nextImages_refl c.line (fun l => l.clearNext c.start (s.footprint c))
    (fun _ => rfl)
    (fun k => if covers c.start (s.footprint c) k then (s.lnu[c.line]).statics.getD k 0 else (s.lnu[c.line]).next.getD k 0)
    (fun k hk => by rw [Line.clearNext_next _ _ _ _ hk, image_getD (s.lnu[c.line]).next hk])
  refine State.nextImages_congr cleared fun l k _ => ?_
  by_cases hl : l = c.line
  · subst hl
    simp
  · simp [hl]

/-- A change of the fixture table leaves the next images alone. -/
theorem State.nextImages_setFixture {s t : State} {v : Fin 8 → Nat → Byte} (h : s.nextImages t v) (i : Fin 128)
    (o : Option Fixture) : s.nextImages (t.setFixture i o) v := State.nextImages_of_lnu h rfl

/-! ### FIXTURE-DEFINE (R7 to R9) -/

theorem onStage_iff (p : Point) : p.onStage = true ↔ p.inStage := by
  simp [Point.onStage, Point.inStage, Config.stageXY, Config.stageZLow, Config.stageZHigh, and_assoc]

theorem angleOk_iff (v : Int) : angleOk v = true ↔ -131072 ≤ v ∧ v ≤ 131072 := by
  simp [angleOk, Config.angleLimit]

theorem footprintFits_iff (start f n : Nat) (check : CheckSlot) :
    footprintFits start f n check = true ↔ start + f - 1 ≤ n - (if check = .none then 0 else 1) := by
  cases check <;> simp [footprintFits]

theorem slotsOverlap_eq_false_iff (s1 f1 s2 f2 : Nat) : slotsOverlap s1 f1 s2 f2 = false ↔ disjointSlots s1 f1 s2 f2 := by
  simp only [slotsOverlap, disjointSlots, Bool.and_eq_false_iff, decide_eq_false_iff_not]
  omega

/-- A footprint overlaps no other when it shares no slot with that of each other fixture on its line (R8). -/
theorem State.overlapsOther_eq_false {s : State} {i : Fin 128} {line : Fin 8} {start f : Nat}
    (h : ∀ j g, j ≠ i → s.fixture? j = some g → g.config.line = line →
      disjointSlots start f g.config.start (s.footprint g.config)) : s.overlapsOther i line start f = false := by
  rw [State.overlapsOther, List.any_eq_false]
  intro j _
  simp only [Bool.and_eq_true, bne_iff_ne, Option.any_eq_true, beq_iff_eq, not_and, not_exists, Bool.not_eq_true]
  intro hj g hg hline
  exact (slotsOverlap_eq_false_iff ..).mpr (h j g hj hg hline)

/-- A definition changes the fixture table and the lines alone. -/
theorem State.defineFixture_eq (s : State) (i : Fin 128) (c : FixtureConfig) :
    s.defineFixture i c = { s with
      fxe := { s.fxe with fixtures := (s.defineFixture i c).fxe.fixtures }, lnu := (s.defineFixture i c).lnu } := by
  unfold State.defineFixture
  cases s.fixture? i <;> rfl

/-- A definition defines its fixture and leaves the others alone. -/
theorem State.defineFixture_fixture? (s : State) (i j : Fin 128) (c : FixtureConfig) :
    (s.defineFixture i c).fixture? j = if j = i then some (s.newFixture i c) else s.fixture? j := by
  have cleared : ∀ o : Option Fixture, (o.elim s fun old => s.clearFootprint old.config).fixture? j = s.fixture? j := by
    intro o
    cases o <;> rfl
  unfold State.defineFixture
  dsimp only
  rw [State.fixture?, State.writeStatics_fxe]
  change (State.setFixture _ i _).fixture? j = _
  rw [State.setFixture_fixture?, cleared]

/-- The next images after a definition (R9). -/
theorem State.nextImages_defineFixture (s : State) (i : Fin 128) (c : FixtureConfig) :
    s.nextImages (s.defineFixture i c) fun l k =>
      if l = c.line ∧ covers c.start (s.profileOf c).defaults.length k then
        (s.profileOf c).defaults.getD (k - (c.start - 1)) 0
      else if (s.fixture? i).any (fun f => l == f.config.line && covers f.config.start (s.footprint f.config) k)
      then (s.lnu[l]).statics.getD k 0
      else (s.lnu[l]).next.getD k 0 := by
  have cleared : s.nextImages ((s.fixture? i).elim s fun old => s.clearFootprint old.config) fun l k =>
      if (s.fixture? i).any (fun f => l == f.config.line && covers f.config.start (s.footprint f.config) k)
      then (s.lnu[l]).statics.getD k 0
      else (s.lnu[l]).next.getD k 0 := by
    cases s.fixture? i with
    | none => exact s.nextImages_refl
    | some old =>
      refine State.nextImages_congr (s.nextImages_clearFootprint old.config) fun l k _ => ?_
      simp
  exact State.nextImages_writeStatics (State.nextImages_setFixture cleared i _) (s.newFixture i c)

/-- Settles O23: the checks hold, and the definition writes the table and the next images. -/
theorem fixtureDefineSetsUpFixture : Obligations.FixtureDefineSetsUpFixture := by
  intro s q i prof c hserving hsaving hlength hi hline hprofile hmount hstart hstart' hstage hyaw hyaw' hprof hdefaults hmode
    hpan htilt hparkPan hparkTilt hfits hapart
  have hprofOf : s.profileOf c = prof := by simp [State.profileOf, hprof]
  have hnumber : u8 q.payload 0 < 128 := by omega
  have checked : firstFailing (defineChecks q s) = none := by
    obtain ⟨hpanLo, hpanLe, hpanHi⟩ := hpan
    obtain ⟨htiltLo, htiltLe, htiltHi⟩ := htilt
    rw [firstFailing_eq_none_iff]
    simp only [defineChecks, tableChecks, List.forall_mem_cons, show configOf (q.payload.drop 1) = c from rfl, hprofOf,
      decide_eq_true_eq, hasLength_iff, Bool.and_eq_true, angleOk_iff, onStage_iff, footprintFits_iff, fixtureField_eq hi,
      State.overlapsOther_eq_false hapart]
    exact ⟨hlength, by simp [State.notSaving, hsaving], ⟨hnumber, hline, hprofile⟩, ⟨hstart, hstart'⟩, hstage,
      ⟨hmount, hyaw, hyaw'⟩, by simpa using congrArg Option.isSome hprof, by simpa using hmode,
      ⟨hpanLe, htiltLe, hpanLo, hpanHi, htiltLo, htiltHi⟩,
      ⟨hparkPan.1, hparkPan.2, hparkTilt.1, hparkTilt.2⟩, hfits, rfl, by simp⟩
  refine ⟨s.defineFixture i c, ?_, s.defineFixture_eq i c, fun j hj => ?_, ?_, ?_⟩
  · refine (congrArg _ (State.serve_accepted hserving checked)).trans ?_
    rw [fixtureField_eq hi]
  · rw [State.defineFixture_fixture?, if_neg hj]
  · rw [State.defineFixture_fixture?, if_pos rfl, State.newFixture, State.resetFixture, hprofOf]
  · have images := s.nextImages_defineFixture i c
    rwa [hprofOf, hdefaults] at images

end Sys2Proof.Machine

/-! ### FIXTURE-REMOVE (R10) -/

namespace Sys2Proof.Machine

/-- A removal changes its fixture and the lines alone. -/
theorem State.removeFixture_eq (s : State) (i : Fin 128) :
    s.removeFixture i = { s with
      fxe := { s.fxe with fixtures := s.fxe.fixtures.set i none }, lnu := (s.removeFixture i).lnu } := by
  unfold State.removeFixture
  cases s.fixture? i <;> rfl

/-- The next images after a removal (R10). -/
theorem State.nextImages_removeFixture {s : State} {i : Fin 128} {f : Fixture} (hf : s.fixture? i = some f) :
    s.nextImages (s.removeFixture i) fun l k =>
      if l = f.config.line ∧ covers f.config.start (s.footprint f.config) k then (s.lnu[l]).statics.getD k 0
      else (s.lnu[l]).next.getD k 0 := by
  unfold State.removeFixture
  rw [hf]
  exact State.nextImages_setFixture (s.nextImages_clearFootprint f.config) i none

/-! ### FIXTURE-SLOTS (R11) -/

/-- Values put at their offsets replace as many static slot values there. -/
theorem putStatics_eq (statics : List Byte) (o : Nat) (values : List Byte) (h : o + values.length ≤ statics.length) :
    putStatics statics o values = statics.take o ++ values ++ statics.drop (o + values.length) := by
  induction values generalizing statics o with
  | nil => simp [putStatics]
  | cons b rest ih =>
    rw [List.length_cons] at h
    have taken : (statics.set o b).take (o + 1) = statics.take o ++ [b] := by
      rw [List.take_succ_eq_append_getElem (by simp; omega), List.take_set_of_le (le_refl _), List.getElem_set_self]
    have dropped : (statics.set o b).drop (o + 1 + rest.length) = statics.drop (o + 1 + rest.length) :=
      List.drop_set_of_lt (by omega)
    rw [putStatics, ih _ _ (by rw [List.length_set]; omega), taken, dropped, List.length_cons, List.append_assoc,
      List.append_assoc, List.append_assoc, List.singleton_append, List.cons_append, Nat.add_assoc, Nat.add_comm 1]

/-- Values at their offsets go into the image, where the slot map does not name the offset. -/
theorem writeUnmapped_getElem (mapped : List Nat) (start : Nat) (img : Vector Byte 512) (o : Nat) (values : List Byte) (k : Nat)
    (h : k < 512) (hstart : 1 ≤ start) :
    (writeUnmapped mapped start img o values)[k] =
      if covers (start + o) values.length k ∧ k - (start - 1) ∉ mapped then values.getD (k - (start + o - 1)) 0
      else img[k] := by
  induction values generalizing img o with
  | nil => simp [writeUnmapped, covers_iff]
  | cons b rest ih =>
    rw [writeUnmapped, ih]
    simp only [covers_iff, List.length_cons]
    by_cases hk : k = start + o - 1
    · have hoffset : k - (start - 1) = o := by omega
      have hlater : ¬ start + (o + 1) - 1 ≤ k := by omega
      have hhere : start + o - 1 ≤ k ∧ k < start + o - 1 + (rest.length + 1) := by omega
      rw [if_neg (fun hc => hlater hc.1.1)]
      by_cases hm : o ∈ mapped
      · rw [if_pos (List.contains_iff_mem.mpr hm), if_neg (fun hc => hc.2 (by rwa [hoffset]))]
      · rw [if_neg (by simpa using hm), if_pos ⟨hhere, by rwa [hoffset]⟩]
        subst hk
        simp
    · have hkeep : (if mapped.contains o then img else img.setIfInBounds (start + o - 1) b)[k] = img[k] := by
        split
        · rfl
        · exact Vector.getElem_setIfInBounds_ne _ fun e => hk e.symm
      rw [hkeep]
      by_cases hin : start + (o + 1) - 1 ≤ k ∧ k < start + (o + 1) - 1 + rest.length
      · have hin' : start + o - 1 ≤ k ∧ k < start + o - 1 + (rest.length + 1) := by omega
        have hnext : k - (start + o - 1) = k - (start + (o + 1) - 1) + 1 := by omega
        rw [hnext, List.getD_cons_succ]
        exact if_congr (and_congr_left' (iff_of_true hin hin')) rfl rfl
      · have hout : ¬ (start + o - 1 ≤ k ∧ k < start + o - 1 + (rest.length + 1)) := by omega
        simp only [hin, hout, false_and, if_false]

/-- FIXTURE-SLOTS changes its fixture and the lines alone. -/
theorem State.setFixtureSlots_eq {s : State} {i : Fin 128} {f : Fixture} (hf : s.fixture? i = some f) (o : Nat)
    (values : List Byte) :
    s.setFixtureSlots i o values = { s with
      fxe := { s.fxe with fixtures := s.fxe.fixtures.set i (some { f with statics := putStatics f.statics o values }) }
      lnu := (s.setFixtureSlots i o values).lnu } := by
  unfold State.setFixtureSlots
  simp only [hf]
  rfl

/-- The next images after a FIXTURE-SLOTS (R11). -/
theorem State.nextImages_setFixtureSlots {s : State} {i : Fin 128} {f : Fixture} (hf : s.fixture? i = some f) (o : Nat)
    (values : List Byte) (hstart : 1 ≤ f.config.start) :
    s.nextImages (s.setFixtureSlots i o values) fun l k =>
      if l = f.config.line ∧ covers (f.config.start + o) values.length k ∧
          k - (f.config.start - 1) ∉ (s.profileOf f.config).mapped
      then values.getD (k - (f.config.start + o - 1)) 0 else (s.lnu[l]).next.getD k 0 := by
  unfold State.setFixtureSlots
  simp only [hf]
  have written := State.nextImages_modifyLine
    (State.nextImages_setFixture s.nextImages_refl i (some { f with statics := putStatics f.statics o values })) f.config.line
    (fun l => { l with next := writeUnmapped (s.profileOf f.config).mapped f.config.start l.next o values }) (fun _ => rfl)
    (fun k => if covers (f.config.start + o) values.length k ∧ k - (f.config.start - 1) ∉ (s.profileOf f.config).mapped
      then values.getD (k - (f.config.start + o - 1)) 0 else (s.lnu[f.config.line]).next.getD k 0)
    (fun k hk => by rw [image_getD _ hk]; exact writeUnmapped_getElem _ _ _ _ _ _ hk hstart)
  refine State.nextImages_congr written fun l k _ => ?_
  by_cases hl : l = f.config.line
  · subst hl
    simp
  · simp [hl]

/-- The checks of FIXTURE-SLOTS hold of values that fit the footprint (R11). -/
theorem slotsChecks_passed {s : State} {q : Request} {i : Fin 128} {f : Fixture} {o : Nat} {values : List Byte}
    (hf : s.fixture? i = some f) (hsaving : s.ims.saving = none)
    (hpayload : q.payload = [byteOf i.val, byteOf o, byteOf values.length] ++ values) (hpos : 1 ≤ values.length)
    (hle : values.length ≤ 48) (hfits : o + values.length ≤ s.footprint f.config) (ho : u8 q.payload 1 = o)
    (hn : u8 q.payload 2 = values.length) :
    firstFailing (tableChecks (hasCountedLength q 3 2 1) s (fixtureChecks q s ++
      [(decide (1 ≤ u8 q.payload 2 ∧ u8 q.payload 2 ≤ 48 ∧
        u8 q.payload 1 + u8 q.payload 2 ≤ s.footprintOf (fixtureField q)), .badValue)])) = none := by
  have hi := u8_index i (by decide) hpayload
  have hplen : q.payload.length = 3 + values.length := by simp [hpayload]; omega
  have hlength : hasCountedLength q 3 2 1 = true := by
    simp only [hasCountedLength, hn, hplen, Config.maxPayload]
    simp
    omega
  have hdefined : s.isDefined i.val = true := (s.isDefined_iff i).mpr (by simp [hf])
  have hfootprint : s.footprintOf i = s.footprint f.config := by simp [State.footprintOf, hf]
  rw [tableChecks_passed hlength hsaving, fixtureField_eq hi]
  simp [fixtureChecks, hi, hdefined, ho, hn, hfootprint, hpos, hle, hfits]

/-- Settles O24: both requests pass their checks and change one fixture and the next image of its line. -/
theorem fixtureRemoveAndSlots : Obligations.FixtureRemoveAndSlots := by
  intro s q i f hf hsaving
  refine ⟨fun hserving hpayload => ?_, fun o values hserving hpayload hpos hle hfits hfootprint hstatics hstart => ?_⟩
  · have hi := u8_index i (by decide) hpayload
    refine ⟨s.removeFixture i, ?_, s.removeFixture_eq i, State.nextImages_removeFixture hf⟩
    refine (congrArg _ (State.serve_accepted hserving ?_)).trans ?_
    · have hlength : hasLength q 1 = true := hasLength_of_eq hpayload
      rw [tableChecks_passed hlength hsaving, fixtureChecks_passed hi hf]
    · rw [fixtureField_eq hi]
  · have hi := u8_index i (by decide) hpayload
    have ho : u8 q.payload 1 = o := by simp [hpayload, u8, byteOf_toNat]; omega
    have hn : u8 q.payload 2 = values.length := by simp [hpayload, u8, byteOf_toNat]; omega
    have hvalues : q.payload.drop 3 = values := by simp [hpayload]
    refine ⟨s.setFixtureSlots i o values, _, ?_, State.setFixtureSlots_eq hf o values, rfl,
      putStatics_eq _ _ _ (by omega), State.nextImages_setFixtureSlots hf o values hstart⟩
    refine (congrArg _ (State.serve_accepted hserving
      (slotsChecks_passed hf hsaving hpayload hpos hle hfits ho hn))).trans ?_
    rw [fixtureField_eq hi, hvalues, ho]

end Sys2Proof.Machine

/-! ### PROFILE-LOAD (R4) -/

namespace Sys2Proof.Machine

/-- An optional offset is listed unless its byte is 0xFF. -/
theorem optIndex_toList (n : Nat) : (optIndex n).toList = [n].filter fun o => o != 255 := by
  by_cases h : n = 255 <;> simp [optIndex, h]

theorem optIndex_isSome (n : Nat) : (optIndex n).isSome = true ↔ n ≠ 255 := by
  by_cases h : n = 255 <;> simp [optIndex, h]

/-- The slot map of the profile a payload carries, by the offsets of its bytes. -/
theorem mapped_profileOf (p : List Byte) : (profileOf (p.drop 1)).mapped =
    mandatoryOffsets p ++ ([3, 5, 7, 9, 11, 12, 13, 14].map (u8 p)).filter fun o => o != 255 := by
  have parts : [3, 5, 7, 9, 11, 12, 13, 14].map (u8 p) =
      [u8 p 3] ++ [u8 p 5] ++ [u8 p 7] ++ [u8 p 9] ++ [u8 p 11] ++ [u8 p 12] ++ [u8 p 13] ++ [u8 p 14] := rfl
  rw [parts]
  simp only [Profile.mapped, profileOf, u8_drop, optIndex_toList, List.filter_append, mandatoryOffsets, List.append_assoc]

/-- With the mandatory offsets present, the slot map lists the present offsets, in another order. -/
theorem presentOffsets_perm {p : List Byte} (h : ∀ o ∈ mandatoryOffsets p, o ≠ 255) :
    (presentOffsets p).Perm (profileOf (p.drop 1)).mapped := by
  have order : (offsetBytes p).Perm (([2, 4, 6, 8, 10] ++ [3, 5, 7, 9, 11, 12, 13, 14]).map (u8 p)) := by
    have : offsetBytes p = ((List.range 13).map (2 + ·)).map (u8 p) := by
      rw [List.map_map]
      rfl
    rw [this]
    exact List.Perm.map _ (by decide)
  have mandatory : (mandatoryOffsets p).filter (fun o => o != 255) = mandatoryOffsets p :=
    List.filter_eq_self.mpr fun o ho => by simpa using h o ho
  have present := order.filter fun o => o != 255
  rw [List.map_append, List.filter_append] at present
  rw [mapped_profileOf, ← mandatory]
  exact present

theorem rangeOk_of_isRange {lo hi : Int} (h : (⟨lo, hi⟩ : Window).isRange) : rangeOk lo hi = true := by
  obtain ⟨hlt, hlo, hhi⟩ := h
  dsimp only at hlt hlo hhi
  simp only [rangeOk, Bool.and_eq_true, decide_eq_true_eq, angleOk_iff]
  omega

/-- The checks of PROFILE-LOAD hold of the payloads that R4 accepts. -/
theorem profileChecks_passed {s : State} {q : Request} {n : Fin 16} (hsaving : s.ims.saving = none)
    (hfree : ∀ i f, s.fixture? i = some f → f.config.profile ≠ n) (hn : u8 q.payload 0 = n.val)
    (h : profileAccepted q.payload) : firstFailing (profileChecks q s) = none := by
  obtain ⟨hlength, hpos, hle, hbelow, hnodup, hwhiteFine, hpan, htilt, hvmax, hamax, hwhite, hgamut, hcurve⟩ := h
  have hfootprint : (profileOf (q.payload.drop 1)).footprint = u8 q.payload 1 := by simp only [profileOf, u8_drop]
  rw [hfootprint] at hlength hpos hle hbelow
  have hmandatory : ∀ o ∈ mandatoryOffsets q.payload, o ≠ 255 := by
    intro o ho
    have := hbelow o (by rw [mapped_profileOf]; exact List.mem_append_left _ ho)
    omega
  have hperm := presentOffsets_perm hmandatory
  have hinUse := (s.profileInUse_eq_false_iff n).mpr hfree
  have hcounted : hasCountedLength q 76 1 1 = true := by
    simp only [hasCountedLength, hlength, Config.maxPayload]
    simp
    omega
  unfold profileChecks
  rw [tableChecks_passed hcounted hsaving, firstFailing_eq_none_iff]
  simp only [profileOf, u8_drop, u16_drop, u32_drop, i32_drop] at hwhiteFine hpan htilt hvmax hamax hwhite
  simp only [List.forall_mem_cons, hn, hinUse, Bool.and_eq_true, decide_eq_true_eq, List.all_eq_true]
  refine ⟨n.isLt, rfl, ⟨hpos, hle⟩, ⟨fun o ho => hbelow o (hperm.mem_iff.mp ho), ?_⟩, hperm.nodup_iff.mpr hnodup, ?_,
    ⟨rangeOk_of_isRange hpan, rangeOk_of_isRange htilt⟩, ⟨by simpa using hvmax, by simpa using hamax⟩, ?_, ⟨hgamut, hcurve⟩,
    by simp⟩
  · exact fun o ho => bne_iff_ne.mpr (hmandatory o ho)
  · simp only [optIndex_isSome] at hwhiteFine
    rw [Bool.or_eq_true, bne_iff_ne, beq_iff_eq]
    exact or_iff_not_imp_right.mpr hwhiteFine
  · rw [Bool.or_eq_true, beq_iff_eq]
    refine or_iff_not_imp_left.mpr fun hsome => ?_
    have := hwhite _ (if_neg hsome)
    simpa using this

/-! ### GROUP-SET (R12) -/

/-- A change of each listed fixture by its number changes it once, and no other. -/
theorem State.foldl_modifyFixture_fixture? (g : Fin 128 → Fixture → Fixture) (l : List (Fin 128)) (hl : l.Nodup) (s : State)
    (j : Fin 128) : (l.foldl (fun s i => s.modifyFixture i (g i)) s).fixture? j =
      if j ∈ l then (s.fixture? j).map (g j) else s.fixture? j := by
  induction l generalizing s with
  | nil => simp
  | cons i l ih =>
    obtain ⟨hi, hnodup⟩ := List.nodup_cons.mp hl
    rw [List.foldl_cons, ih hnodup, State.modifyFixture_fixture?]
    by_cases hj : j = i
    · subst hj
      simp [hi]
    · simp [hj]

/-- Changes of fixtures leave every other block alone. -/
theorem State.foldl_modifyFixture_eq (g : Fin 128 → Fixture → Fixture) (l : List (Fin 128)) (s : State) :
    l.foldl (fun s i => s.modifyFixture i (g i)) s = { s with
      fxe := { s.fxe with fixtures := (l.foldl (fun s i => s.modifyFixture i (g i)) s).fxe.fixtures } } := by
  induction l generalizing s with
  | nil => rfl
  | cons i l ih =>
    rw [List.foldl_cons, ih]
    unfold State.modifyFixture State.setFixture
    split <;> rfl

/-- GROUP-SET gives each defined fixture its bit. -/
theorem State.setGroup_fixture? (s : State) (g : Nat) (member : Nat → Bool) (i : Fin 128) :
    (s.setGroup g member).fixture? i =
      (s.fixture? i).map fun f => { f with groups := withGroup f.groups g (member i.val) } := by
  refine (State.foldl_modifyFixture_fixture? (fun i f => { f with groups := withGroup f.groups g (member i.val) })
    (List.finRange 128) (List.nodup_finRange 128) s i).trans ?_
  rw [if_pos (List.mem_finRange i)]

theorem State.setGroup_eq (s : State) (g : Nat) (member : Nat → Bool) :
    s.setGroup g member = { s with fxe := { s.fxe with fixtures := (s.setGroup g member).fxe.fixtures } } := by
  unfold State.setGroup
  exact State.foldl_modifyFixture_eq (fun i f => { f with groups := withGroup f.groups g (member i.val) }) _ s

/-- A group set with one group added or removed. -/
theorem getLsbD_withGroup (groups : BitVec 32) (g h : Fin 32) (member : Bool) :
    (withGroup groups g.val member).getLsbD h.val = if h = g then member else groups.getLsbD h.val := by
  have hlt := h.isLt
  by_cases hg : h = g
  · subst hg
    cases member <;> simp [withGroup]
  · have hne : (h : Nat) ≠ g := fun e => hg (Fin.ext e)
    cases member <;> simp [withGroup, hg, hne]

/-! ### ZONE-SET (R66) -/

/-- A map of n bytes at an offset is the map at the front of the rest. -/
theorem mapField_drop (n : Nat) (p : List Byte) (i j : Nat) : mapField (p.drop i) j n = mapField p (i + j) n := by
  induction n generalizing j with
  | zero => rfl
  | succ n ih => rw [mapField, mapField, u8_drop, ih, Nat.add_assoc]

/-- A signed 4-byte field at an offset, within its range. -/
theorem i32_of_drop {b r : List Byte} {n : Nat} {v : Int} (h : b.drop n = be32i v ++ r) (lo : -2147483648 ≤ v)
    (hi : v < 2147483648) : i32 b n = v := by
  have := i32_drop b n 0
  rw [h, i32_be32i v r lo hi] at this
  exact this.symm

/-- A zone on stage is read as it was written. -/
theorem zoneOf_bytes {z : Zone} (hlo : Point.inStage ⟨z.x.lo, z.y.lo, z.z.lo⟩) (hhi : Point.inStage ⟨z.x.hi, z.y.hi, z.z.hi⟩) :
    zoneOf z.bytes = z := by
  obtain ⟨xlo, xlo', ylo, ylo', zlo, zlo'⟩ := hlo
  obtain ⟨xhi, xhi', yhi, yhi', zhi, zhi'⟩ := hhi
  dsimp only at *
  have hgroups : groupField z.bytes 26 = z.groups := by
    have hdrop : z.bytes.drop 26 = mapBytes 4 z.groups.toNat ++ [] := rfl
    have hmap := mapField_drop 4 z.bytes 26 0
    rw [hdrop, mapField_mapBytes, Nat.mod_eq_of_lt (show z.groups.toNat < 256 ^ 4 from z.groups.isLt)] at hmap
    rw [groupField, ← hmap, BitVec.ofNat_toNat, BitVec.setWidth_eq]
  have hmode : u8 z.bytes 24 = (zoneModeCode z.mode).toNat := rfl
  have henabled : u8 z.bytes 25 = (boolByte z.enabled).toNat := rfl
  have hx := i32_of_drop (b := z.bytes) (n := 0) (v := z.x.lo) rfl (by omega) (by omega)
  have hx' := i32_of_drop (b := z.bytes) (n := 4) (v := z.x.hi) rfl (by omega) (by omega)
  have hy := i32_of_drop (b := z.bytes) (n := 8) (v := z.y.lo) rfl (by omega) (by omega)
  have hy' := i32_of_drop (b := z.bytes) (n := 12) (v := z.y.hi) rfl (by omega) (by omega)
  have hz := i32_of_drop (b := z.bytes) (n := 16) (v := z.z.lo) rfl (by omega) (by omega)
  have hz' := i32_of_drop (b := z.bytes) (n := 20) (v := z.z.hi) rfl (by omega) (by omega)
  rw [zoneOf, hx, hx', hy, hy', hz, hz', hgroups, hmode, henabled]
  obtain ⟨x, y, w, mode, enabled, groups⟩ := z
  cases mode <;> cases enabled <;> rfl

/-- The checks of ZONE-SET hold of an ordered zone on stage. -/
theorem zoneChecks_passed {s : State} {q : Request} {i : Fin 16} {z : Zone} (hsaving : s.ims.saving = none)
    (hpayload : q.payload = byteOf i.val :: z.bytes) (hordered : ∀ w ∈ [z.x, z.y, z.z], w.lo ≤ w.hi)
    (hlo : Point.inStage ⟨z.x.lo, z.y.lo, z.z.lo⟩) (hhi : Point.inStage ⟨z.x.hi, z.y.hi, z.z.hi⟩) :
    firstFailing (tableChecks (hasLength q 31) s
      [(decide (u8 q.payload 0 < 16), .badValue), (decide (u8 q.payload 25 < 2 ∧ u8 q.payload 26 < 2), .badValue),
       (z.onStage, .badValue), (decide (z.x.lo ≤ z.x.hi ∧ z.y.lo ≤ z.y.hi ∧ z.z.lo ≤ z.z.hi), .badValue)]) = none := by
  have hi := u8_index i (by decide) hpayload
  have hlength : hasLength q 31 = true := hasLength_of_eq hpayload
  have hmode : u8 q.payload 25 < 2 := by
    rw [hpayload]
    change (zoneModeCode z.mode).toNat < 2
    cases z.mode <;> decide
  have henabled : u8 q.payload 26 < 2 := by
    rw [hpayload]
    change (boolByte z.enabled).toNat < 2
    cases z.enabled <;> decide
  have hstage : z.onStage = true := by
    rw [Zone.onStage, (onStage_iff _).mpr hlo, (onStage_iff _).mpr hhi]
    rfl
  simp only [List.forall_mem_cons] at hordered
  obtain ⟨hx, hy, hz, -⟩ := hordered
  rw [tableChecks_passed hlength hsaving]
  simp [hi, hmode, henabled, hstage, hx, hy, hz]

/-- Settles O25: each request passes its checks and changes the table as it says. -/
theorem profilesGroupsAndZonesAreSet : Obligations.ProfilesGroupsAndZonesAreSet := by
  intro s q hsaving
  refine ⟨fun n hserving hfree hn haccepted => ?_, fun g hserving hlength hg hdefined => ?_,
    fun i z hserving hpayload hordered hlo hhi => ?_⟩
  · refine (congrArg _ (State.serve_accepted hserving (profileChecks_passed hsaving hfree hn haccepted))).trans ?_
    rw [profileField_eq hn]
    rfl
  · refine ⟨s.setGroup g.val (memberBit q), ?_, s.setGroup_eq g.val (memberBit q), fun i => ?_⟩
    · refine (congrArg _ (State.serve_accepted hserving ?_)).trans ?_
      · have hall : (List.finRange 128).all (fun i => !memberBit q i.val || (s.fixture? i).isSome) = true := by
          rw [List.all_eq_true]
          intro i _
          rw [Bool.or_eq_true, Bool.not_eq_true', ← Bool.not_eq_true]
          exact or_iff_not_imp_left.mpr fun hbit => hdefined i (not_not.mp hbit)
        rw [tableChecks_passed ((hasLength_iff ..).mpr hlength) hsaving, hall, hg]
        simp
      · rw [hg]
    · rw [State.setGroup_fixture?]
      refine ⟨fun hnone => by rw [hnone]; rfl, fun f hf => ?_⟩
      rw [hf]
      refine ⟨_, rfl, rfl, ?_, fun h hne => ?_⟩
      · exact (getLsbD_withGroup ..).trans (if_pos rfl)
      · exact (getLsbD_withGroup ..).trans (if_neg hne)
  · have hi := u8_index i (by decide) hpayload
    have hzone : zoneOf (q.payload.drop 1) = z := by
      rw [hpayload]
      exact zoneOf_bytes hlo hhi
    have checked := zoneChecks_passed hsaving hpayload hordered hlo hhi
    rw [← hzone] at checked
    refine (congrArg _ (State.serve_accepted hserving checked)).trans ?_
    rw [zoneField_eq hi, hzone]
    rfl

end Sys2Proof.Machine

/-! ## Transitions: the fade and the spaces of an aim -/

namespace Sys2Proof.Machine

/-! ### half-away (section 3.7) -/

/-- Half-away is half-up on the one side of zero and its mirror image on the other. -/
theorem halfAway_eq (n d : Int) : halfAway n d = if 0 ≤ n then halfUp n d else -halfUp (-n) d := rfl

theorem halfUp_nonneg {n d : Int} (hd : 0 < d) (hn : 0 ≤ n) : 0 ≤ halfUp n d :=
  Int.ediv_nonneg (by omega) (by omega)

theorem halfAway_le_halfAway {m n d : Int} (hd : 0 < d) (h : m ≤ n) : halfAway m d ≤ halfAway n d := by
  rw [halfAway_eq, halfAway_eq]
  by_cases hm : 0 ≤ m
  · rw [if_pos hm, if_pos (hm.trans h)]
    exact halfUp_le_halfUp hd h
  · rw [if_neg hm]
    have mirrored := halfUp_nonneg hd (show 0 ≤ -m by omega)
    by_cases hn : 0 ≤ n
    · rw [if_pos hn]
      have := halfUp_nonneg hd hn
      omega
    · rw [if_neg hn]
      exact neg_le_neg (halfUp_le_halfUp hd (neg_le_neg h))

/-- An exact quotient is left as it is. -/
theorem halfAway_mul (k : Int) {d : Int} (hd : 0 < d) : halfAway (d * k) d = k := by
  rw [halfAway_eq, ← mul_neg, halfUp_mul _ hd, halfUp_mul _ hd, neg_neg, ite_self]

/-- The rounding depends on the quotient alone. -/
theorem halfAway_mul_mul (n d : Int) {c : Int} (hc : 0 < c) : halfAway (c * n) (c * d) = halfAway n d := by
  have scaled : ∀ m, halfUp (c * m) (c * d) = halfUp m d := fun m => by
    rw [halfUp, halfUp, show 2 * (c * m) + c * d = c * (2 * m + d) by ring, show 2 * (c * d) = c * (2 * d) by ring,
      Int.mul_ediv_mul_of_pos _ _ hc]
  rw [halfAway_eq, halfAway_eq, ← mul_neg, scaled, scaled]
  simp only [mul_nonneg_iff_of_pos_left hc]

/-! ### The value of a fade (R27) -/

/-- The way covered at progress k of duration D, as a part of `fadeWhole`. -/
def fadePart (shape : Shape) (d k : Nat) : Int :=
  match shape with
  | .linear => k
  | .ease => 3 * (k * k * d) - 2 * (k * k * k)

/-- The whole way of a fade of duration D. -/
def fadeWhole (shape : Shape) (d : Nat) : Int :=
  match shape with
  | .linear => d
  | .ease => d * d * d

/-- A fade rounds the point its part of the way leads to. -/
theorem interpolate_eq (shape : Shape) {d : Nat} (hd : 0 < d) (k : Nat) (a b : Int) :
    interpolate shape d k a b = halfAway (a * fadeWhole shape d + (b - a) * fadePart shape d k) (fadeWhole shape d) := by
  cases shape <;> simp [interpolate, fadeWhole, fadePart, Nat.ne_of_gt hd]

theorem fadeWhole_pos (shape : Shape) {d : Nat} (hd : 0 < d) : 0 < fadeWhole shape d := by
  cases shape <;> simp only [fadeWhole] <;> positivity

theorem fadePart_nonneg (shape : Shape) {d k : Nat} (hk : k ≤ d) : 0 ≤ fadePart shape d k := by
  cases shape with
  | linear => exact Int.natCast_nonneg k
  | ease =>
    have factored : fadePart .ease d k = k * k * (d + 2 * (d - k)) := by simp only [fadePart]; ring
    have ahead : (0 : Int) ≤ d - k := by omega
    rw [factored]
    positivity

theorem fadePart_le_fadeWhole (shape : Shape) {d k : Nat} (hk : k ≤ d) : fadePart shape d k ≤ fadeWhole shape d := by
  cases shape with
  | linear => exact Int.ofNat_le.mpr hk
  | ease =>
    have factored : fadeWhole .ease d - fadePart .ease d k = (d - k) * (d - k) * (d + 2 * k) := by
      simp only [fadePart, fadeWhole]; ring
    have : (0 : Int) ≤ (d - k) * (d - k) * (d + 2 * k) := mul_nonneg (mul_self_nonneg _) (by omega)
    omega

theorem fadePart_zero (shape : Shape) (d : Nat) : fadePart shape d 0 = 0 := by
  cases shape <;> simp [fadePart]

theorem fadePart_self (shape : Shape) (d : Nat) : fadePart shape d d = fadeWhole shape d := by
  cases shape
  · rfl
  · simp only [fadePart, fadeWhole]
    ring

theorem interpolate_zero (shape : Shape) {d : Nat} (hd : 0 < d) (a b : Int) : interpolate shape d 0 a b = a := by
  rw [interpolate_eq shape hd, fadePart_zero, mul_zero, add_zero, mul_comm, halfAway_mul _ (fadeWhole_pos shape hd)]

theorem interpolate_self (shape : Shape) {d : Nat} (hd : 0 < d) (a b : Int) : interpolate shape d d a b = b := by
  rw [interpolate_eq shape hd, fadePart_self, show ∀ w : Int, a * w + (b - a) * w = w * b by intro w; ring,
    halfAway_mul _ (fadeWhole_pos shape hd)]

/-- A fade stays between its ends. -/
theorem interpolate_bounds (shape : Shape) {d k : Nat} (hd : 0 < d) (hk : k ≤ d) (a b : Int) :
    min a b ≤ interpolate shape d k a b ∧ interpolate shape d k a b ≤ max a b := by
  have whole := fadeWhole_pos shape hd
  have part := fadePart_nonneg shape hk
  have rest := fadePart_le_fadeWhole shape hk
  rw [interpolate_eq shape hd]
  generalize fadeWhole shape d = w at *
  generalize fadePart shape d k = x at *
  have mixed : a * w + (b - a) * x = a * (w - x) + b * x := by ring
  have lower : w * min a b ≤ a * w + (b - a) * x := by
    rw [mixed]
    nlinarith [min_le_left a b, min_le_right a b]
  have upper : a * w + (b - a) * x ≤ w * max a b := by
    rw [mixed]
    nlinarith [le_max_left a b, le_max_right a b]
  constructor
  · calc min a b = halfAway (w * min a b) w := (halfAway_mul _ whole).symm
      _ ≤ _ := halfAway_le_halfAway whole lower
  · calc halfAway (a * w + (b - a) * x) w ≤ halfAway (w * max a b) w := halfAway_le_halfAway whole upper
      _ = max a b := halfAway_mul _ whole

/-- Half way both shapes have covered half the way. -/
theorem interpolate_ease_halfWay {k : Nat} (hk : 0 < k) (a b : Int) :
    interpolate .ease (2 * k) k a b = interpolate .linear (2 * k) k a b := by
  have hscale : (0 : Int) < 4 * (k * k) := by positivity
  rw [interpolate_eq _ (by omega), interpolate_eq _ (by omega), ← halfAway_mul_mul _ (fadeWhole .linear (2 * k)) hscale]
  simp only [fadeWhole, fadePart]
  push_cast
  ring_nf

/-- Settles O30: the rounding is monotone and leaves both ends as they are. -/
theorem fadeStaysBetweenItsEnds : Obligations.FadeStaysBetweenItsEnds := by
  intro shape d k a b hd hk
  obtain ⟨lower, upper⟩ := interpolate_bounds shape hd hk a b
  refine ⟨lower, upper, interpolate_zero shape hd a b, interpolate_self shape hd a b, by simp [interpolate], ?_⟩
  rintro rfl
  exact interpolate_ease_halfWay (by omega) a b

/-! ### The space of a new aim transition (R29, R30) -/

/-- Settles O28: the present value and the target choose the case of R29 and R30. -/
theorem aimTransitionSpaces : Obligations.AimTransitionSpaces := by
  intro f source m d sh
  refine ⟨fun p t hp => ?_, fun a => ?_, fun t a sol ha hsol => ?_⟩
  · simp [aimStart, hp, newTransition, limitFade]
  · simp [aimStart, newTransition, limitFade]
  · simp [aimStart, ha, hsol, newTransition, limitFade]

end Sys2Proof.Machine

/-! ## Direct requests and overrides -/

namespace Sys2Proof.Machine

/-! ### The fixtures a selector names (R13, R38) -/

/-- The expansion of a selector lists the defined fixtures it names. -/
theorem State.expand_eq (s : State) (sel : Selector) :
    s.expand sel = (List.finRange 128).filter fun i => (s.fixture? i).any (sel.names i) := by
  cases sel with
  | fixture n =>
    refine List.filter_congr fun i _ => ?_
    cases s.fixture? i <;> simp [Selector.names]
  | group g => rfl
  | all => rfl

theorem State.expand_length (s : State) (sel : Selector) : (s.expand sel).length = s.numberNamed sel := by
  rw [State.expand_eq, State.numberNamed, List.countP_eq_length_filter]

/-- A change of the fixtures a selector names leaves everything else as it is. -/
theorem State.changeNamed_fixturesChanged (s : State) (sel : Selector) (g : Fixture → Fixture) :
    s.fixturesChanged (s.modifyFixtures (s.expand sel) g) fun i f => if sel.names i f then g f else f :=
  ⟨State.modifyFixtures_eq _ s g, s.changeNamed_fixture? sel g⟩

section
variable {s : State} {q : Request} {sel : Selector} {n : Nat} {own : List (Bool × Status)}

/-- A selector that names a defined fixture, a group or all of them passes the selector checks. -/
theorem selectorChecks_passed (hsel : selectorField q.payload = some sel)
    (hdefined : ∀ i, sel = .fixture i → s.isDefined i = true) (hlength : q.payload.length = n)
    (hown : ∀ x ∈ own, x.1 = true) :
    firstFailing (selectorChecks q n s own) = none := by
  have hselector : s.selectorDefined sel = true := by
    cases sel with
    | fixture i => exact hdefined i rfl
    | group g => rfl
    | all => rfl
  rw [firstFailing_eq_none_iff]
  simp only [selectorChecks, List.forall_mem_cons, hsel, Option.isSome_some, Option.all_some]
  exact ⟨(hasLength_iff ..).mpr hlength, trivial, hselector, hown⟩

/-- A direct request that passes its checks gives each fixture its selector names what `effect` gives it, and answers with
their number. -/
theorem State.serve_selected {kind : Byte} {effect : State → Fixture → Fixture} {given : Fixture → Fixture}
    (hsel : selectorField q.payload = some sel) (hdefined : ∀ i, sel = .fixture i → s.isDefined i = true)
    (hserving : s.serving kind q) (hlength : q.payload.length = n) (hown : ∀ x ∈ own, x.1 = true)
    (hgiven : ∀ f, effect s f = given f) :
    ∃ t : State,
      (.next (s.serve kind q (changeBody (fun s => selectorChecks q n s own) fun s => s.changeSelected q (effect s))) :
        Host.Outcome State Fault Refusal) = .next (t.answered kind q (.ok [byteOf (s.numberNamed sel)])) ∧
      s.fixturesChanged t fun i f => if sel.names i f then given f else f := by
  have hselected : s.selected q = s.expand sel := by simp [State.selected, hsel]
  refine ⟨s.modifyFixtures (s.expand sel) given, ?_, s.changeNamed_fixturesChanged sel given⟩
  rw [State.serve_accepted hserving (selectorChecks_passed hsel hdefined hlength hown), State.changeSelected, hselected,
    s.expand_length, funext hgiven]

end

/-! ### AIM, TINT and LEVEL (R38 to R41) -/

/-- A shape code that passes its check. -/
theorem shapeOf_of_lt {code : Nat} (h : code < 2) : shapeOf code = if code = 0 then .linear else .ease := by
  interval_cases code <;> rfl

/-- The colour a TINT carries, as a to value (R31). -/
theorem colourOf_tintField (prof : Profile) (p : List Byte) : colourOf prof (tintField p) =
    { r := u16 p 2, g := u16 p 4, b := u16 p 6, wmix := if u8 p 8 = 1 then prof.defaultWmix else min (u16 p 9) 256 } := by
  unfold colourOf tintField
  by_cases h : u8 p 8 = 1 <;> simp [h, limitWmix]

/-- Settles O27: each request passes its checks and starts its transition on the fixtures named. -/
theorem directRequestsStartTransitions : Obligations.DirectRequestsStartTransitions := by
  intro s q sel hsel hdefined
  refine ⟨fun a hserving hlength haim hshape => ?_, fun hserving hlength hwmix hshape => ?_,
    fun hserving hlength hshape => ?_⟩
  · refine State.serve_selected hsel hdefined hserving hlength (by simp [hshape, haim]) fun f => ?_
    rw [Fixture.startAim, haim, shapeOf_of_lt hshape, Option.getD_some]
  · refine State.serve_selected hsel hdefined hserving hlength (by simp [hshape, hwmix]) fun f => ?_
    rw [Fixture.startColour, colourOf_tintField, shapeOf_of_lt hshape]
    rfl
  · refine State.serve_selected hsel hdefined hserving hlength (by simp [hshape]) fun f => ?_
    rw [Fixture.startLevel, shapeOf_of_lt hshape]
    rfl

/-! ### PARK, STOP, DOUSE and RELEASE (R42 to R45) -/

/-- A release clears the override of its kind, kind 3 all of them. -/
theorem Fixture.release_eq (kind : Nat) (f : Fixture) : f.release kind =
    { f with run := { f.run with
        parked := if kind = 0 ∨ kind = 3 then false else f.run.parked
        stopped := if kind = 1 ∨ kind = 3 then none else f.run.stopped
        doused := if kind = 2 ∨ kind = 3 then false else f.run.doused } } := by
  have cleared : ∀ (b : Bool) (k : Nat),
      (b && !(kind == k || kind == 3)) = if kind = k ∨ kind = 3 then false else b := fun b k => by
    rw [show (kind == k || kind == 3) = decide (kind = k ∨ kind = 3) by rw [Bool.eq_iff_iff]; simp]
    split
    · next h => rw [decide_eq_true h, Bool.not_true, Bool.and_false]
    · next h => rw [decide_eq_false h, Bool.not_false, Bool.and_true]
  simp only [Fixture.release, cleared, Bool.or_eq_true, beq_iff_eq]

/-- Settles O29: each request passes its checks and changes its override on the fixtures named. -/
theorem overridesFollowRequests : Obligations.OverridesFollowRequests := by
  intro s q sel hsel hdefined
  refine ⟨fun hserving hlength => ?_, fun hserving hlength => ?_, fun hserving hlength => ?_,
    fun kind hkind hserving hlength hpayload => ?_⟩
  · exact State.serve_selected hsel hdefined hserving hlength (by simp) fun f => rfl
  · exact State.serve_selected hsel hdefined hserving hlength (by simp) fun f => rfl
  · exact State.serve_selected hsel hdefined hserving hlength (by simp) fun f => rfl
  · refine State.serve_selected hsel hdefined hserving hlength (by simp [hpayload, hkind]) fun f => ?_
    rw [hpayload, Fixture.release_eq]

end Sys2Proof.Machine

/-! ## The update of a track (R147) -/

namespace Sys2Proof.Machine

/-- A track entry is due at local time `t` (R147). -/
def TrackEntry.dueBy (t : LocalTime) (e : TrackEntry) : Bool := decide (0 ≤ (t - e.due).toInt)

/-- The entries due leave from the head of the queue, and the last of them is the one that counts. -/
theorem passDue_eq (t : LocalTime) (queue : List TrackEntry) :
    passDue t queue = ((queue.takeWhile (TrackEntry.dueBy t)).getLast?, queue.dropWhile (TrackEntry.dueBy t)) := by
  induction queue with
  | nil => rfl
  | cons e rest ih =>
    rw [passDue, ih]
    by_cases h : 0 ≤ since t e.due
    · have hdue : e.dueBy t = true := decide_eq_true h
      rw [if_pos h, List.takeWhile_cons_of_pos hdue, List.dropWhile_cons_of_pos hdue, List.getLast?_cons]
    · have hdue : ¬e.dueBy t = true := fun hd => h (of_decide_eq_true hd)
      rw [if_neg h, List.takeWhile_cons_of_neg hdue, List.dropWhile_cons_of_neg hdue]
      rfl

/-- An update leaves its time in the track. -/
theorem Track.updateTo_updated (k : Track) (t : LocalTime) : (k.updateTo t).1.updated = some t := by
  unfold Track.updateTo
  repeat' split
  all_goals rfl

/-- An update of a track changes the track table at that track alone. -/
theorem State.updateTrack_tku (s : State) (k : Fin 4) (t : LocalTime) :
    (s.updateTrack k t).tku = if (s.tku[k]).state = .unbound then s.tku else s.tku.set k ((s.tku[k]).updateTo t).1 := by
  unfold State.updateTrack
  split
  · rfl
  · dsimp only
    split <;> rfl

/-- An update of a track sees nothing of the pass record. -/
theorem State.updateTrack_setPass (s : State) (p : Option Pass) (k : Fin 4) (t : LocalTime) :
    (s.setPass p).updateTrack k t = (s.updateTrack k t).setPass p := by
  unfold State.updateTrack
  rw [State.setPass_tku]
  split
  · rfl
  · dsimp only
    split <;> rfl

theorem State.updateTrackOnce_setPass (s : State) (p : Option Pass) (k : Fin 4) (t : LocalTime) :
    (s.setPass p).updateTrackOnce k t = (s.updateTrackOnce k t).setPass p := by
  unfold State.updateTrackOnce
  rw [State.updateTrack_setPass, State.setPass_tku]
  split <;> rfl

theorem State.updateRemaining_setPass (s : State) (p : Option Pass) (t : LocalTime) :
    (s.setPass p).updateRemaining t = (s.updateRemaining t).setPass p :=
  List.foldl_hom (fun u => State.setPass u p) fun u k => u.updateTrackOnce_setPass p k t

section
variable (s : State) (j k : Fin 4) (t : LocalTime)

/-- An update of one track leaves the others as they are. -/
theorem State.updateTrackOnce_tku_ne (h : j ≠ k) : (s.updateTrackOnce j t).tku[k] = s.tku[k] := by
  have hv : j.val ≠ k.val := fun e => h (Fin.ext e)
  unfold State.updateTrackOnce
  split
  · rfl
  · simp only [State.updateTrack_tku]
    split
    · rfl
    · simp [hv]

/-- A bound track is updated. -/
theorem State.updateTrackOnce_updated (hbound : (s.tku[k]).state ≠ .unbound) :
    ((s.updateTrackOnce k t).tku[k]).updated = some t := by
  unfold State.updateTrackOnce
  split
  · assumption
  · simp only [State.updateTrack_tku, if_neg hbound]
    simpa using Track.updateTo_updated s.tku[k] t

/-- A track that is updated stays updated. -/
theorem State.updateTrackOnce_keeps_updated (h : (s.tku[k]).updated = some t) :
    ((s.updateTrackOnce j t).tku[k]).updated = some t := by
  by_cases hjk : j = k
  · subst hjk
    rw [State.updateTrackOnce, if_pos h, h]
  · rw [s.updateTrackOnce_tku_ne j k t hjk, h]

theorem State.foldl_updateTrackOnce_keeps_updated (l : List (Fin 4)) {s : State} (h : (s.tku[k]).updated = some t) :
    ((l.foldl (fun u j => State.updateTrackOnce u j t) s).tku[k]).updated = some t := by
  induction l generalizing s with
  | nil => exact h
  | cons j l ih => exact ih (s.updateTrackOnce_keeps_updated j k t h)

theorem State.foldl_updateTrackOnce_updated (l : List (Fin 4)) {s : State} (hk : k ∈ l)
    (hbound : (s.tku[k]).state ≠ .unbound) :
    ((l.foldl (fun u j => State.updateTrackOnce u j t) s).tku[k]).updated = some t := by
  induction l generalizing s with
  | nil => cases hk
  | cons j l ih =>
    by_cases hjk : j = k
    · subst hjk
      exact State.foldl_updateTrackOnce_keeps_updated j t l (s.updateTrackOnce_updated j t hbound)
    · have hrest : k ∈ l := (List.mem_cons.mp hk).resolve_left (Ne.symm hjk)
      exact ih hrest (by rw [s.updateTrackOnce_tku_ne j k t hjk]; exact hbound)

/-- The completion of a pass leaves every bound track updated to its time (R147). -/
theorem State.updateRemaining_updated (hbound : (s.tku[k]).state ≠ .unbound) :
    ((s.updateRemaining t).tku[k]).updated = some t :=
  State.foldl_updateTrackOnce_updated k t _ (List.mem_finRange k) hbound

end

section
variable {s : State} {k : Fin 4} {t : LocalTime} {e : TrackEntry}

theorem State.updateTrack_of_unbound (h : (s.tku[k]).state = .unbound) : s.updateTrack k t = s := by
  rw [State.updateTrack, if_pos h]

/-- With nothing due, an update leaves its time alone in the track. -/
theorem State.updateTrack_of_nothing_due (hbound : (s.tku[k]).state ≠ .unbound)
    (hdue : (s.tku[k]).queue.takeWhile (TrackEntry.dueBy t) = []) :
    s.updateTrack k t = { s with tku := s.tku.set k { s.tku[k] with
      queue := (s.tku[k]).queue.dropWhile (TrackEntry.dueBy t), updated := some t } } := by
  have hleft : (s.tku[k]).queue.dropWhile (TrackEntry.dueBy t) = (s.tku[k]).queue := by
    have whole := List.takeWhile_append_dropWhile (p := TrackEntry.dueBy t) (l := (s.tku[k]).queue)
    rwa [hdue, List.nil_append] at whole
  rw [State.updateTrack, if_neg hbound, Track.updateTo, passDue_eq, hdue, hleft]
  rfl

/-- A track whose last due entry is `e`, after the entries due have left its queue. -/
def Track.passed (k : Track) (t : LocalTime) (e : TrackEntry) : Track :=
  { k with
    queue := k.queue.dropWhile (TrackEntry.dueBy t), updated := some t, fromPoint := some e.point, fromTime := some e.due
    joins := [] }

/-- What the update of a track with an entry due comes to. -/
theorem Track.updateTo_of_due {k : Track} (he : (k.queue.takeWhile (TrackEntry.dueBy t)).getLast? = some e) :
    k.updateTo t =
      if k.queue.dropWhile (TrackEntry.dueBy t) ≠ [] then (k.passed t e, none)
      else if e.last then ({ k.passed t e with state := .ended }, some .ended)
      else ({ k.passed t e with state := .starved }, some .starved) := by
  rw [Track.updateTo, passDue_eq, he]
  rfl

theorem State.updateTrack_of_left (hbound : (s.tku[k]).state ≠ .unbound)
    (he : ((s.tku[k]).queue.takeWhile (TrackEntry.dueBy t)).getLast? = some e)
    (hleft : (s.tku[k]).queue.dropWhile (TrackEntry.dueBy t) ≠ []) :
    s.updateTrack k t = { s with tku := s.tku.set k ((s.tku[k]).passed t e) } := by
  rw [State.updateTrack, if_neg hbound, Track.updateTo_of_due he, if_pos hleft]
  rfl

theorem State.updateTrack_of_ended (hbound : (s.tku[k]).state ≠ .unbound)
    (he : ((s.tku[k]).queue.takeWhile (TrackEntry.dueBy t)).getLast? = some e)
    (hleft : (s.tku[k]).queue.dropWhile (TrackEntry.dueBy t) = []) (hlast : e.last = true) :
    s.updateTrack k t =
      ({ s with tku := s.tku.set k { (s.tku[k]).passed t e with state := .ended } } : State).raise (.track k .ended) := by
  rw [State.updateTrack, if_neg hbound, Track.updateTo_of_due he, if_neg (not_not.mpr hleft), if_pos hlast]
  rfl

theorem State.updateTrack_of_starved (hbound : (s.tku[k]).state ≠ .unbound)
    (he : ((s.tku[k]).queue.takeWhile (TrackEntry.dueBy t)).getLast? = some e)
    (hleft : (s.tku[k]).queue.dropWhile (TrackEntry.dueBy t) = []) (hlast : e.last = false) :
    s.updateTrack k t =
      (({ s with tku := s.tku.set k { (s.tku[k]).passed t e with state := .starved } } : State).count
        Stats.addUnderrun).raise (.track k .starved) := by
  rw [State.updateTrack, if_neg hbound, Track.updateTo_of_due he, if_neg (not_not.mpr hleft), hlast]
  rfl

end

end Sys2Proof.Machine

/-! ## The running pass (R35) -/

namespace Sys2Proof.Machine

/-! ### The next fixture -/

section
variable {s : State} {p : Pass}

/-- No fixture is left to a pass exactly when none is defined from the next one on. -/
theorem State.nextToEvaluate_eq_none_iff :
    s.nextToEvaluate p = none ↔ ∀ j : Fin 128, p.nextFixture ≤ j.val → s.fixture? j = none := by
  simp [State.nextToEvaluate, List.find?_eq_none]

/-- The next fixture of a pass is the first defined one that the pass has not reached. -/
theorem State.nextToEvaluate_eq_some {i : Fin 128} (hi : p.nextFixture ≤ i.val) (hf : (s.fixture? i).isSome = true)
    (hfirst : ∀ j : Fin 128, p.nextFixture ≤ j.val → j < i → s.fixture? j = none) : s.nextToEvaluate p = some i := by
  rw [State.nextToEvaluate, List.find?_eq_some_iff_getElem]
  refine ⟨by simp [hi, hf], i.val, by simp, by simp, fun j hj => ?_⟩
  by_cases hreached : p.nextFixture ≤ j
  · simp [hreached, hfirst ⟨j, by omega⟩ hreached hj]
  · simp [hreached]

/-- The next fixture is one the pass has not reached. -/
theorem State.le_of_nextToEvaluate {i : Fin 128} (h : s.nextToEvaluate p = some i) : p.nextFixture ≤ i.val := by
  have := List.find?_some h
  simp only [Bool.and_eq_true, decide_eq_true_eq] at this
  exact this.1

/-- After an evaluation the pass stands behind the fixture evaluated. -/
theorem State.evaluateNext_pass {i : Fin 128} (h : s.nextToEvaluate p = some i) :
    ∃ p', (s.evaluateNext p).fxe.pass = some p' ∧ p'.nextFixture = i.val + 1 := by
  rw [State.evaluateNext, h]
  exact ⟨_, rfl, rfl⟩

/-! ### The rest of a pass (log entry 11) -/

theorem State.evaluateRest_of_none (hp : s.fxe.pass = some p) (h : s.nextToEvaluate p = none) (n : Nat) :
    s.evaluateRest n = s := by
  cases n <;> simp [State.evaluateRest, hp, h]

theorem State.evaluateRest_of_some {i : Fin 128} (hp : s.fxe.pass = some p) (h : s.nextToEvaluate p = some i) (n : Nat) :
    s.evaluateRest (n + 1) = (s.evaluateNext p).evaluateRest n := by
  simp [State.evaluateRest, hp, h]

/-- A pass that has reached fixture number `m` needs no more than 128 - m further evaluations. -/
theorem State.evaluateRest_succ {n : Nat} (hp : s.fxe.pass = some p) (hn : 128 ≤ p.nextFixture + n) :
    s.evaluateRest (n + 1) = s.evaluateRest n := by
  induction n generalizing s p with
  | zero =>
    exact State.evaluateRest_of_none hp (State.nextToEvaluate_eq_none_iff.mpr fun j hj => by omega) 1
  | succ n ih =>
    cases h : s.nextToEvaluate p with
    | none => rw [State.evaluateRest_of_none hp h, State.evaluateRest_of_none hp h]
    | some i =>
      obtain ⟨p', hp', hnext⟩ := State.evaluateNext_pass h
      have reached := State.le_of_nextToEvaluate h
      rw [State.evaluateRest_of_some hp h, State.evaluateRest_of_some hp h, ih hp' (by omega)]

/-- A completion with fixtures left begins with the evaluation of the next one. -/
theorem State.finishPass_evaluateNext {i : Fin 128} (hp : s.fxe.pass = some p) (h : s.nextToEvaluate p = some i) :
    s.finishPass = (s.evaluateNext p).finishPass := by
  obtain ⟨p', hp', hnext⟩ := State.evaluateNext_pass h
  rw [State.finishPass, State.finishPass, State.evaluateRest_of_some hp h, State.evaluateRest_succ (n := 127) hp' (by omega)]

/-- A completion with no fixture left completes the pass at once. -/
theorem State.finishPass_of_none (hp : s.fxe.pass = some p) (h : s.nextToEvaluate p = none) :
    s.finishPass = s.completePass := by
  rw [State.finishPass, State.evaluateRest_of_none hp h]

/-- The completion of a pass whose sampling is met. -/
theorem State.completePass_eq (hp : s.fxe.pass = some p) (hx : p.sampling = none) :
    s.completePass = ((s.updateRemaining p.localTime).swapImages).setPass none := by
  simp only [State.completePass, hp, hx]

end

/-! ### The stick sampling within a pass (log entry 9) -/

/-- The last pass record counts. -/
theorem State.setPass_setPass (s : State) (q r : Option Pass) : (s.setPass q).setPass r = s.setPass r := rfl

theorem State.swapImages_setPass (s : State) (q : Option Pass) : (s.setPass q).swapImages = s.swapImages.setPass q := rfl

/-- `s` after the stick sampling `x` that pass `p` has come to. -/
def State.sampled (s : State) (p : Pass) (x : Sampling) : State :=
  (s.sampleSticks x.adc x.stepLength).setPass (some { p with sampling := none })

section
variable {s : State} {p : Pass} {x : Sampling}

/-- The sampling changes no fixture. -/
theorem State.sampled_fixture? (j : Fin 128) : (s.sampled p x).fixture? j = s.fixture? j := by
  simp [State.sampled, State.fixture?]

theorem State.nextToEvaluate_sampled : (s.sampled p x).nextToEvaluate { p with sampling := none } = s.nextToEvaluate p := by
  simp only [State.nextToEvaluate, State.sampled_fixture?]

/-- A completion that still has the sampling to meet is one right after the sampling. -/
theorem State.completePass_sampled (hp : s.fxe.pass = some p) (hx : p.sampling = some x) :
    s.completePass = (s.sampled p x).completePass := by
  rw [State.completePass_eq (s := s.sampled p x) rfl rfl, State.sampled, State.updateRemaining_setPass]
  simp only [State.completePass, hp, hx, State.swapImages_setPass, State.setPass_setPass]

end

/-! ### An evaluation and the pass record -/

/-- The state in which a fixture is evaluated: the track that its promoted aim follows has been updated (R147). -/
def State.asked (s : State) (p : Pass) (promoted : Fixture) : State :=
  match promoted.followedTrack with
  | some k => s.updateTrackOnce k p.localTime
  | none => s

/-- `u` after fixture `i`, so far `f`, has become `g`: its notices, and its slot values over its footprint (R36). -/
def State.stored (u : State) (i : Fin 128) (f g : Fixture) : State :=
  ((u.setFixture i (some g)).raiseFlags i f.run g.run).modifyLine g.config.line fun l =>
    l.writeNext g.config.start (g.slotValues (u.profileOf g.config))

theorem State.evaluateDefined_eq (s : State) (p : Pass) (i : Fin 128) (f : Fixture) :
    s.evaluateDefined p i f =
      (s.asked p (f.promoteAim p)).stored i f ((s.asked p (f.promoteAim p)).evaluated p i (f.promoteAim p)) := rfl

theorem State.asked_setPass (s : State) (q : Option Pass) (p : Pass) (f : Fixture) :
    (s.setPass q).asked p f = (s.asked p f).setPass q := by
  unfold State.asked
  split
  · exact s.updateTrackOnce_setPass q _ _
  · rfl

theorem State.evaluated_setPass (s : State) (q : Option Pass) (p : Pass) (i : Fin 128) (f : Fixture) :
    (s.setPass q).evaluated p i f = s.evaluated p i f := rfl

theorem State.raiseFlags_setPass (s : State) (q : Option Pass) (i : Fin 128) (a b : Runtime) :
    (s.setPass q).raiseFlags i a b = (s.raiseFlags i a b).setPass q := by
  unfold State.raiseFlags State.raiseFlag
  split <;> split <;> rfl

theorem State.stored_setPass (u : State) (q : Option Pass) (i : Fin 128) (f g : Fixture) :
    (u.setPass q).stored i f g = (u.stored i f g).setPass q := by
  unfold State.stored
  rw [show (u.setPass q).setFixture i (some g) = (u.setFixture i (some g)).setPass q from rfl, State.raiseFlags_setPass]
  rfl

/-- An evaluation sees nothing of the pass record beside the pass it belongs to. -/
theorem State.evaluate_setPass (s : State) (q : Option Pass) (p : Pass) (i : Fin 128) :
    (s.setPass q).evaluate p i = (s.evaluate p i).setPass q := by
  unfold State.evaluate
  rw [show (s.setPass q).fixture? i = s.fixture? i from rfl]
  split
  · rw [State.evaluateDefined_eq, State.evaluateDefined_eq, State.asked_setPass, State.evaluated_setPass, State.stored_setPass]
  · rfl

section
variable {s : State} {p : Pass} {x : Sampling}

/-- The evaluation of fixture `i` by a pass with no sampling to meet before it. -/
theorem State.evaluateNext_eq {i : Fin 128} (h : s.nextToEvaluate p = some i)
    (hx : ∀ x, p.sampling = some x → i.val < x.before) :
    s.evaluateNext p = (s.evaluate p i).setPass (some { p with nextFixture := i.val + 1 }) := by
  have unmet : s.meetSampling p i.val = (s, p) := by
    unfold State.meetSampling
    split
    · rfl
    · next x hsampling => rw [if_neg (Nat.not_le.mpr (hx x hsampling))]
  rw [State.evaluateNext, h]
  dsimp only
  rw [unmet]

/-- An evaluation that the sampling stands before is one right after the sampling. -/
theorem State.evaluateNext_sampled {i : Fin 128} (h : s.nextToEvaluate p = some i) (hx : p.sampling = some x)
    (hi : x.before ≤ i.val) : s.evaluateNext p = (s.sampled p x).evaluateNext { p with sampling := none } := by
  rw [State.evaluateNext_eq (s := s.sampled p x) (i := i) (by rw [State.nextToEvaluate_sampled, h]) (by simp), State.sampled,
    State.evaluate_setPass, State.evaluateNext, h]
  dsimp only
  rw [State.meetSampling, hx]
  dsimp only
  rw [if_pos hi, State.setPass_setPass]

end

/-! ### The two commands -/

section
variable {s : State} {p : Pass}

theorem exec_fixtureEvaluation (hp : s.fxe.pass = some p) : exec .fixtureEvaluation s = .next (s.evaluateNext p) := by
  simp only [exec, execFixtureEvaluation, hp]

theorem exec_passCompletion (s : State) : exec .passCompletion s = .next s.finishPass := rfl

theorem State.finishPass_of_no_pass (hp : s.fxe.pass = none) : s.finishPass = s := by
  simp [State.finishPass, State.evaluateRest, State.completePass, hp]

/-- The completion of a pass changes the lines, the tracks, the notices with the counters, and the pass record. -/
theorem State.completePass_blocks (hp : s.fxe.pass = some p) (hx : p.sampling = none) :
    s.completePass = { s with
      fxe := { s.fxe with pass := none }, lnu := s.lnu.map Line.swap, tku := (s.updateRemaining p.localTime).tku
      rqd := (s.updateRemaining p.localTime).rqd } := by
  rw [State.completePass_eq hp hx]
  exact State.ext_blocks (by simp) (by simp) (by simp) (by simp) (by simp) (by simp) (by simp) (by simp) (by simp) (by simp)

end

/-- Settles O42: the updates case by case, the swap, and the commands that come to an evaluation or a sampling first. -/
theorem passCompletionSwapsImages : Obligations.PassCompletionSwapsImages := by
  intro s
  refine ⟨fun hp => ?_, fun k time => ?_, fun p hp => ⟨fun hx hnone => ?_, fun i u hi hf hu => ?_, fun x hx => ?_⟩⟩
  · rw [exec_passCompletion, State.finishPass_of_no_pass hp]
    exact ⟨rfl, by simp only [exec, execFixtureEvaluation, hp]⟩
  · exact ⟨State.updateTrack_of_unbound, State.updateTrack_of_nothing_due, fun e hbound he =>
      ⟨State.updateTrack_of_left hbound he, State.updateTrack_of_ended hbound he, State.updateTrack_of_starved hbound he⟩⟩
  · refine ⟨s.completePass, ?_, ?_⟩
    · rw [exec_passCompletion, State.finishPass_of_none hp (State.nextToEvaluate_eq_none_iff.mpr hnone)]
    · rw [State.completePass_blocks hp hx]
      exact ⟨rfl, fun l => by simp [Line.swap], fun k => s.updateRemaining_updated k p.localTime, rfl⟩
  · cases h : s.nextToEvaluate p with
    | none =>
      rw [State.nextToEvaluate_eq_none_iff.mp h i hi] at hf
      cases hf
    | some j =>
      rw [exec_fixtureEvaluation hp] at hu
      cases hu
      rw [exec_passCompletion, exec_passCompletion, State.finishPass_evaluateNext hp h]
  · refine ⟨fun hnone => ?_, fun i hbefore hi hf hfirst => ?_⟩
    · have h := State.nextToEvaluate_eq_none_iff.mpr hnone
      rw [exec_passCompletion, State.finishPass_of_none hp h, State.completePass_sampled hp hx,
        ← State.finishPass_of_none (s := s.sampled p x) rfl (State.nextToEvaluate_sampled.trans h)]
      rfl
    · rw [exec_fixtureEvaluation hp, State.evaluateNext_sampled (State.nextToEvaluate_eq_some hi hf hfirst) hx hbefore]
      exact (exec_fixtureEvaluation (s := s.sampled p x) rfl).symm

end Sys2Proof.Machine

/-! ## The evaluation of a fixture (R36) -/

namespace Sys2Proof.Machine

/-! ### Step 1: promotions and present values (R26 to R28, R34) -/

/-- What becomes of `rest` where a pending transition that is due starts by `start` (R34). -/
def Pass.promote {α β : Type} (p : Pass) (start : Pending α → β) (rest : β) : Option (Pending α) → β
  | some x => if isDue p x then start x else rest
  | none => rest

/-- The pending transition that is left after the promotion (R34). -/
def Pass.leaves {α : Type} (p : Pass) (x : Option (Pending α)) : Option (Pending α) :=
  if (p.promotes x).isSome then none else x

/-- A promotion starts the transition that the pass promotes. -/
theorem Pass.promote_eq {α β : Type} (p : Pass) (start : Pending α → β) (rest : β) (x : Option (Pending α)) :
    p.promote start rest x = ((p.promotes x).map start).getD rest := by
  cases x with
  | none => rfl
  | some x =>
    rw [Pass.promote, isDue_eq, Pass.promotes, Option.filter_some]
    split <;> rfl

/-- The aim transition that is active after the promotion (R34). -/
def Fixture.activeAim (f : Fixture) (p : Pass) : AimTransition :=
  match p.promotes f.run.aimPending with
  | some x => aimStart f x.source x.due x.toValue x.duration x.shape
  | none => f.run.aim

/-- The colour transition that is active after the promotion (R34). -/
def Fixture.activeColour (f : Fixture) (prof : Profile) (p : Pass) : Transition Colour :=
  match p.promotes f.run.colourPending with
  | some x => newTransition x.source x.due f.run.colourPresent (colourOf prof x.toValue) x.duration x.shape
  | none => f.run.colour

/-- The level transition that is active after the promotion (R34). -/
def Fixture.activeLevel (f : Fixture) (p : Pass) : Transition Nat :=
  match p.promotes f.run.levelPending with
  | some x => newTransition x.source x.due f.run.levelPresent x.toValue x.duration x.shape
  | none => f.run.level

section
variable (f : Fixture) (prof : Profile) (p : Pass)

theorem Fixture.promoteAim_eq :
    f.promoteAim p = { f with run := { f.run with aim := f.activeAim p, aimPending := p.leaves f.run.aimPending } } := by
  have promotion : f.promoteAim p = p.promote (fun x => { f with run := { f.run with
      aim := aimStart f x.source x.due x.toValue x.duration x.shape
      aimPending := none } }) f f.run.aimPending := by
    unfold Fixture.promoteAim
    cases f.run.aimPending <;> rfl
  rw [promotion, p.promote_eq]
  unfold Fixture.activeAim Pass.leaves
  cases p.promotes f.run.aimPending <;> rfl

theorem Fixture.promoteColour_eq : f.promoteColour prof p =
    { f with run := { f.run with colour := f.activeColour prof p, colourPending := p.leaves f.run.colourPending } } := by
  have promotion : f.promoteColour prof p = p.promote (fun x => { f with run := { f.run with
      colour := newTransition x.source x.due f.run.colourPresent (colourOf prof x.toValue) x.duration x.shape
      colourPending := none } }) f f.run.colourPending := by
    unfold Fixture.promoteColour
    cases f.run.colourPending <;> rfl
  rw [promotion, p.promote_eq]
  unfold Fixture.activeColour Pass.leaves
  cases p.promotes f.run.colourPending <;> rfl

theorem Fixture.promoteLevel_eq : f.promoteLevel p =
    { f with run := { f.run with level := f.activeLevel p, levelPending := p.leaves f.run.levelPending } } := by
  have promotion : f.promoteLevel p = p.promote (fun x => { f with run := { f.run with
      level := newTransition x.source x.due f.run.levelPresent x.toValue x.duration x.shape
      levelPending := none } }) f f.run.levelPending := by
    unfold Fixture.promoteLevel
    cases f.run.levelPending <;> rfl
  rw [promotion, p.promote_eq]
  unfold Fixture.activeLevel Pass.leaves
  cases p.promotes f.run.levelPending <;> rfl

/-- A fixture whose aim has gone through step 1: the active transition as the pass has seen it, and its present value. -/
def Fixture.presentAim (served : Fin 4 → Point) : Fixture :=
  let a := f.activeAim p
  { f with run := { f.run with
    aim := { a with core := p.seen a.core }, aimPending := p.leaves f.run.aimPending
    aimPresent := a.value (p.progress a.core) served } }

/-- A fixture whose colour has gone through step 1. -/
def Fixture.presentColour : Fixture :=
  let t := f.activeColour prof p
  { f with run := { f.run with
    colour := p.seen t, colourPending := p.leaves f.run.colourPending
    colourPresent := interpolateColour t.shape t.duration (p.progress t) t.fromValue t.toValue } }

/-- A fixture whose level has gone through step 1. -/
def Fixture.presentLevel : Fixture :=
  let t := f.activeLevel p
  { f with run := { f.run with
    level := p.seen t, levelPending := p.leaves f.run.levelPending
    levelPresent := (interpolate t.shape t.duration (p.progress t) t.fromValue t.toValue).toNat } }

theorem Fixture.stepAim_promoteAim (served : Fin 4 → Point) :
    (f.promoteAim p).stepAim p served = f.presentAim p served := by
  rw [Fixture.promoteAim_eq, Fixture.stepAim]
  dsimp only
  rw [Transition.observed_eq, Transition.progress_eq]
  rfl

theorem Fixture.stepColour_eq : f.stepColour prof p = f.presentColour prof p := by
  rw [Fixture.stepColour, Fixture.promoteColour_eq]
  dsimp only
  rw [Transition.observed_eq, Transition.progress_eq]
  rfl

theorem Fixture.stepLevel_eq : f.stepLevel p = f.presentLevel p := by
  rw [Fixture.stepLevel, Fixture.promoteLevel_eq]
  dsimp only
  rw [Transition.observed_eq, Transition.progress_eq]
  rfl

/-- A fixture after step 1. -/
def Fixture.presented (served : Fin 4 → Point) : Fixture :=
  ((f.presentAim p served).presentColour prof p).presentLevel p

end

/-! ### The aim present value (R28, R146) -/

section
variable {a : AimTransition} {k : Nat} {served : Fin 4 → Point}

theorem AimTransition.value_of_track {n : Fin 4} (h : a.core.toValue = .track n) : a.value k served = .point (served n) := by
  rw [AimTransition.value, h]

theorem AimTransition.value_of_points {o t : Point} (ho : a.core.fromValue = .point o) (ht : a.core.toValue = .point t) :
    a.value k served = .point (interpolatePoint a.core.shape a.core.duration k o t) := by
  rw [AimTransition.value, ht, ho]

theorem AimTransition.value_of_angles {o t : Angles} (ho : a.core.fromValue = .angles o) (ht : a.core.toValue = .angles t) :
    a.value k served =
      match a.target with
      | some q =>
        if k = a.core.duration then .point q else .angles (interpolateAngles a.core.shape a.core.duration k o t)
      | none => .angles (interpolateAngles a.core.shape a.core.duration k o t) := by
  rw [AimTransition.value, ht, ho]
  cases a.target <;> simp

end

/-- One coordinate of a served point, where the time between the two ends is not empty (R146). -/
theorem trackCoordinate_isHalfAway (num a b : Int) {den : Int} (h : 0 < den) :
    isHalfAway (trackCoordinate num den a b) (a * den + (b - a) * max 0 (min den num)) den.toNat := by
  have at_end : ∀ n v : Int, n = den * v → isHalfAway v n den.toNat := by
    rintro n v rfl
    have rounded := halfAway_isHalfAway (den * v) den.toNat (by omega)
    rwa [Int.toNat_of_nonneg h.le, halfAway_mul v h] at rounded
  unfold trackCoordinate
  split
  · next hend =>
    rw [min_eq_left hend, max_eq_right h.le]
    exact at_end _ _ (by ring)
  · split
    · next hstart =>
      rw [max_eq_left (min_le_of_right_le hstart)]
      exact at_end _ _ (by ring)
    · rw [min_eq_right (by omega), max_eq_right (by omega)]
      have rounded := halfAway_isHalfAway (a * den + (b - a) * num) den.toNat (by omega)
      rwa [Int.toNat_of_nonneg h.le] at rounded

/-- A point on the way between the two ends of a track's service (R146). -/
theorem trackPoint_isHalfAway (num : Int) (a b : Point) {den : Int} (h : 0 < den) :
    let part := max 0 (min den num)
    isHalfAway (trackPoint num den a b).x (a.x * den + (b.x - a.x) * part) den.toNat ∧
      isHalfAway (trackPoint num den a b).y (a.y * den + (b.y - a.y) * part) den.toNat ∧
      isHalfAway (trackPoint num den a b).z (a.z * den + (b.z - a.z) * part) den.toNat :=
  ⟨trackCoordinate_isHalfAway num _ _ h, trackCoordinate_isHalfAway num _ _ h, trackCoordinate_isHalfAway num _ _ h⟩

/-- A track serves the point of R146. -/
theorem Track.serve_serves (k : Track) (i : Fin 128) (mount : Point) (t : LocalTime) :
    k.serves i mount t (k.serve i mount t) := by
  unfold Track.serves Track.serve
  dsimp only
  generalize (k.joins.find? fun x => x.1 == i).bind Prod.snd = join
  cases k.queue with
  | nil => cases k.fromPoint <;> rfl
  | cons h rest =>
    cases k.fromPoint with
    | some o => cases join <;> exact trackPoint_isHalfAway _ _ _
    | none =>
      cases join with
      | none => rfl
      | some o => exact trackPoint_isHalfAway _ _ _

end Sys2Proof.Machine

/-! ### Steps 2 to 8: overrides, zones, desired angles, limiter and drives -/

namespace Sys2Proof.Machine

section
variable {f : Fixture} {prof : Profile} {p : Pass} {zones : List Zone} {sticks : List Stick}

theorem Fixture.zoneStep_of_parked (h : f.run.parked = true) : f.zoneStep zones sticks = none := by
  rw [Fixture.zoneStep, h]

theorem Fixture.zoneStep_of_angles {a : Angles} (h : f.run.parked = false) (ha : f.run.aimPresent = .angles a) :
    f.zoneStep zones sticks = none := by
  rw [Fixture.zoneStep, h, ha]

theorem Fixture.zoneStep_of_point {a : Point} (h : f.run.parked = false) (ha : f.run.aimPresent = .point a) :
    f.zoneStep zones sticks = some (zoneCheck zones sticks f.groups a) := by
  rw [Fixture.zoneStep, h, ha]

theorem Fixture.aimAngles_of_parked (h : f.run.parked = true) (checked : Option Point) :
    f.aimAngles checked = (f.config.park, .override) := if_pos h

theorem Fixture.aimAngles_of_stopped {a : Angles} (h : f.run.parked = false) (hs : f.run.stopped = some a)
    (checked : Option Point) : f.aimAngles checked = (a, .override) := by
  simp only [Fixture.aimAngles, h, hs, Bool.false_eq_true, if_false]

theorem Fixture.aimAngles_of_angles {a : Angles} (h : f.run.parked = false) (hs : f.run.stopped = none)
    (ha : f.run.aimPresent = .angles a) : f.aimAngles none = (a, .angleAim f.run.aim.reachMark) := by
  simp only [Fixture.aimAngles, h, hs, ha, Bool.false_eq_true, if_false]

theorem Fixture.aimAngles_of_solved {pt : Point} {sol : Solution} (h : f.run.parked = false) (hs : f.run.stopped = none)
    (hsol : solve f.config pt f.run.desired.pan = some sol) :
    f.aimAngles (some pt) = (sol.angles, .solution sol.fallback) := by
  simp only [Fixture.aimAngles, h, hs, hsol, Bool.false_eq_true, if_false]

theorem Fixture.aimAngles_of_mountPoint {pt : Point} (h : f.run.parked = false) (hs : f.run.stopped = none)
    (hsol : solve f.config pt f.run.desired.pan = none) : f.aimAngles (some pt) = (f.run.desired, .mountPoint) := by
  simp only [Fixture.aimAngles, h, hs, hsol, Bool.false_eq_true, if_false]

/-- The desired angles and REACH, by where the angles come from (R19, R20). -/
theorem Fixture.stepOutputs_desired (prof : Profile) (p : Pass) (sticks : List Stick) {aim : Angles × AngleOrigin}
    (h : f.aimAngles ((f.zoneStep zones sticks).map ZoneCheck.point) = aim) :
    (f.stepOutputs prof p zones sticks).run.desired = clampAngles f.config aim.1 ∧
      (f.stepOutputs prof p zones sticks).run.reach = reachFlag f.run.reach aim.2 := by
  subst h
  exact ⟨rfl, rfl⟩

/-- CLAMPED and BLANKED, by the outcome of step 3 (R74, R75). -/
theorem Fixture.stepOutputs_zones (prof : Profile) (p : Pass) {z : Option ZoneCheck} (h : f.zoneStep zones sticks = z) :
    (f.stepOutputs prof p zones sticks).run.clamped = z.any ZoneCheck.clamped ∧
      (f.stepOutputs prof p zones sticks).run.blanked = z.any ZoneCheck.blanked := by
  subst h
  exact ⟨rfl, rfl⟩

variable (prof p)

theorem Fixture.stepOutputs_of_parked (h : f.run.parked = true) :
    let g := f.stepOutputs prof p zones sticks
    g.run.desired = clampAngles f.config f.config.park ∧ g.run.reach = false ∧ g.run.clamped = false ∧
      g.run.blanked = false := by
  have unchecked : f.zoneStep zones sticks = none := Fixture.zoneStep_of_parked h
  obtain ⟨hdesired, hreach⟩ := Fixture.stepOutputs_desired prof p sticks (zones := zones) (Fixture.aimAngles_of_parked h _)
  obtain ⟨hclamped, hblanked⟩ := Fixture.stepOutputs_zones prof p unchecked
  exact ⟨hdesired, hreach, hclamped, hblanked⟩

theorem Fixture.stepOutputs_of_stopped {a : Angles} (h : f.run.parked = false) (hs : f.run.stopped = some a) :
    let g := f.stepOutputs prof p zones sticks
    g.run.desired = clampAngles f.config a ∧ g.run.reach = false :=
  Fixture.stepOutputs_desired prof p sticks (Fixture.aimAngles_of_stopped h hs _)

theorem Fixture.stepOutputs_of_angles {a : Angles} (h : f.run.parked = false) (ha : f.run.aimPresent = .angles a) :
    let g := f.stepOutputs prof p zones sticks
    g.run.clamped = false ∧ g.run.blanked = false ∧
      (f.run.stopped = none → g.run.desired = clampAngles f.config a ∧ g.run.reach = f.run.aim.reachMark) := by
  have unchecked : f.zoneStep zones sticks = none := Fixture.zoneStep_of_angles h ha
  obtain ⟨hclamped, hblanked⟩ := Fixture.stepOutputs_zones prof p unchecked
  refine ⟨hclamped, hblanked, fun hs =>
    Fixture.stepOutputs_desired prof p sticks (aim := (a, .angleAim f.run.aim.reachMark)) ?_⟩
  rw [unchecked]
  exact Fixture.aimAngles_of_angles h hs ha

theorem Fixture.stepOutputs_of_point {a : Point} (h : f.run.parked = false) (ha : f.run.aimPresent = .point a) :
    let g := f.stepOutputs prof p zones sticks
    let z := zoneCheck zones sticks f.groups a
    g.run.clamped = z.clamped ∧ g.run.blanked = z.blanked ∧
      (∀ sol, f.run.stopped = none → solve f.config z.point f.run.desired.pan = some sol →
        g.run.desired = clampAngles f.config sol.angles ∧ g.run.reach = sol.fallback) ∧
      (f.run.stopped = none → solve f.config z.point f.run.desired.pan = none →
        g.run.desired = clampAngles f.config f.run.desired ∧ g.run.reach = f.run.reach) := by
  have checked : f.zoneStep zones sticks = some (zoneCheck zones sticks f.groups a) := Fixture.zoneStep_of_point h ha
  obtain ⟨hclamped, hblanked⟩ := Fixture.stepOutputs_zones prof p checked
  refine ⟨hclamped, hblanked, fun sol hs hsol => ?_, fun hs hsol => ?_⟩
  · refine Fixture.stepOutputs_desired prof p sticks (aim := (sol.angles, .solution sol.fallback)) ?_
    rw [checked, Option.map_some, Fixture.aimAngles_of_solved h hs hsol]
  · refine Fixture.stepOutputs_desired prof p sticks (aim := (f.run.desired, .mountPoint)) ?_
    rw [checked, Option.map_some, Fixture.aimAngles_of_mountPoint h hs hsol]

end

/-! ### The state after an evaluation -/

/-- A FIXTURE-FLAG notice is raised exactly where the flag rises (R19, R75). -/
theorem State.raiseFlag_eq (s : State) (i : Fin 128) (flag : FlagName) (before after : Bool) :
    s.raiseFlag i flag before after = if after = true ∧ before = false then s.raise (.fixtureFlag i flag) else s := by
  simp [State.raiseFlag]

theorem footprintValues_length (prof : Profile) (statics : List Byte) (commanded : Angles) (e : EmitterDrive) :
    (footprintValues prof statics commanded e).length = prof.footprint := by
  simp [footprintValues]

/-- Values written into one line's next image. -/
theorem State.nextImages_writeNext {s t : State} {v : Fin 8 → Nat → Byte} (h : s.nextImages t v) (m : Fin 8) (slot : Nat)
    (values : List Byte) :
    s.nextImages (t.modifyLine m fun l => l.writeNext slot values) fun l k =>
      if l = m ∧ covers slot values.length k then values.getD (k - (slot - 1)) 0 else v l k := by
  have written := State.nextImages_modifyLine h m (fun l => l.writeNext slot values) (fun _ => rfl)
    (fun k => if covers slot values.length k then values.getD (k - (slot - 1)) 0 else v m k)
    (fun k hk => by rw [Line.writeNext_next _ _ _ _ hk, (h m).2 k hk])
  refine State.nextImages_congr written fun l k _ => ?_
  by_cases hl : l = m <;> simp [hl]

section
variable (s : State) (p : Pass) (i : Fin 128) (f g : Fixture)

/-- The track that a promoted aim follows is updated unless the pass has done so (R147). -/
theorem State.asked_promoteAim : s.asked p (f.promoteAim p) =
    match (f.activeAim p).core.toValue with
    | .track n => if (s.tku[n]).updated = some p.localTime then s else s.updateTrack n p.localTime
    | _ => s := by
  rw [Fixture.promoteAim_eq, State.asked, Fixture.followedTrack]
  dsimp only
  cases (f.activeAim p).core.toValue <;> rfl

/-- The update of a track for an evaluation changes the tracks, and the notices with the counters. -/
theorem State.asked_eq : s.asked p f = { s with tku := (s.asked p f).tku, rqd := (s.asked p f).rqd } := by
  unfold State.asked
  split
  · exact State.ext_blocks (by simp) rfl (by simp) (by simp) (by simp) rfl (by simp) (by simp) (by simp) (by simp)
  · rfl

/-- The outcome of steps 1 to 8 for fixture `i`, with its track as the pass finds it. -/
def State.outcome : Fixture :=
  let served := fun k : Fin 4 => ((s.asked p (f.promoteAim p)).tku[k]).serve i f.config.mount p.localTime
  (f.presented (s.profileOf f.config) p served).stepOutputs (s.profileOf f.config) p s.fxe.zones.toList s.sku.sticks.toList

theorem State.evaluated_eq : (s.asked p (f.promoteAim p)).evaluated p i (f.promoteAim p) = s.outcome p i f := by
  have hfxe : (s.asked p (f.promoteAim p)).fxe = s.fxe := by rw [State.asked_eq]
  have hsku : (s.asked p (f.promoteAim p)).sku = s.sku := by rw [State.asked_eq]
  have hprof : (s.asked p (f.promoteAim p)).profileOf f.config = s.profileOf f.config := by
    rw [State.profileOf, hfxe, State.profileOf]
  rw [State.evaluated, State.outcome, Fixture.promoteAim_config, hprof, hfxe, hsku]
  rw [Fixture.stepAim_promoteAim, Fixture.stepColour_eq, Fixture.stepLevel_eq, Fixture.presented]

/-- The notices of one evaluation (R19, R75; log entry 24). -/
theorem State.raiseFlags_eq (before after : Runtime) : s.raiseFlags i before after =
    let dark := if after.blanked = true ∧ before.blanked = false then s.raise (.fixtureFlag i .blanked) else s
    if after.reach = true ∧ before.reach = false then dark.raise (.fixtureFlag i .reach) else dark := by
  simp only [State.raiseFlags, State.raiseFlag_eq]

theorem State.stored_fxe : (s.stored i f g).fxe = { s.fxe with fixtures := s.fxe.fixtures.set i (some g) } := by
  simp [State.stored]

theorem State.stored_rqd : (s.stored i f g).rqd = (s.raiseFlags i f.run g.run).rqd := by
  simp only [State.stored, State.modifyLine_rqd, State.raiseFlags, State.raiseFlag]
  split <;> split <;> rfl

/-- An evaluation changes the fixture engine, the next images, the track that is followed, and the notices with the
counters. -/
theorem State.stored_eq {u : State} (hu : u = { s with tku := u.tku, rqd := u.rqd }) (q : Option Pass) :
    let t := (u.stored i f g).setPass q
    t = { s with fxe := t.fxe, lnu := t.lnu, tku := u.tku, rqd := (u.raiseFlags i f.run g.run).rqd } := by
  have kept : ∀ {β : Type} (block : State → β), block u = block { s with tku := u.tku, rqd := u.rqd } :=
    fun block => congrArg block hu
  exact State.ext_blocks (by simp [State.stored, kept State.sli]) (u.stored_rqd i f g) rfl
    (by simp [State.stored, kept State.scu]) (by simp [State.stored, kept State.pbu]) (by simp [State.stored])
    (by simp [State.stored, kept State.sku]) rfl (by simp [State.stored, kept State.ims])
    (by simp [State.stored, kept State.pending])

/-- The footprint in the next image after an evaluation (R164). -/
theorem State.stored_nextImages {u : State} (hl : u.lnu = s.lnu) :
    s.nextImages (u.stored i f g) fun l k =>
      if l = g.config.line ∧ covers g.config.start (u.profileOf g.config).footprint k
      then (g.slotValues (u.profileOf g.config)).getD (k - (g.config.start - 1)) 0 else (s.lnu[l]).next.getD k 0 := by
  have before : s.nextImages ((u.setFixture i (some g)).raiseFlags i f.run g.run) fun l k => (s.lnu[l]).next.getD k 0 :=
    State.nextImages_of_lnu s.nextImages_refl (by simp [hl])
  have written := State.nextImages_writeNext before g.config.line g.config.start (g.slotValues (u.profileOf g.config))
  rwa [Fixture.slotValues, footprintValues_length] at written

end

/-- Settles O40: step 1 comes to `presented`, steps 2 to 8 to `stepOutputs`, and the outcome is stored. -/
theorem evaluationUpdatesOneFixture : Obligations.EvaluationUpdatesOneFixture := by
  intro s p i f hp hsampling hreached hf hfirst
  have hnext := State.nextToEvaluate_eq_some hreached (by rw [hf]; rfl) hfirst
  have hevaluated : s.evaluate p i = (s.asked p (f.promoteAim p)).stored i f (s.outcome p i f) := by
    rw [State.evaluate, hf]
    exact (s.evaluateDefined_eq p i f).trans (by rw [s.evaluated_eq p i f])
  have hserved : ∀ n, (f.activeAim p).core.toValue = .track n → ∃ a, (s.outcome p i f).run.aimPresent = .point a ∧
      ((s.asked p (f.promoteAim p)).tku[n]).serves i f.config.mount p.localTime a :=
    fun n hn => ⟨_, AimTransition.value_of_track hn, Track.serve_serves ..⟩
  have hasked := s.asked_eq p (f.promoteAim p)
  have hu := s.asked_promoteAim p f
  rw [exec_fixtureEvaluation hp, State.evaluateNext_eq hnext hsampling, hevaluated]
  generalize s.asked p (f.promoteAim p) = u at hasked hu hserved
  have hfxe : u.fxe = s.fxe := by rw [hasked]
  have hprof : u.profileOf f.config = s.profileOf f.config := State.profileOf_congr (congrArg Fxe.profiles hfxe) f.config
  have images := s.stored_nextImages i f (s.outcome p i f) (u := u) (by rw [hasked])
  -- In the order of the statement: the table, the kept fields, step 1, the overrides and zones, the limiter, the drives with
  -- the footprint, and the notices.
  refine ⟨_, u, s.outcome p i f, rfl, ?_, rfl, rfl, rfl, rfl, hu, ⟨rfl, rfl, rfl, rfl, rfl, rfl⟩,
    ⟨hserved, fun a b ha hb => AimTransition.value_of_points ha hb, fun a b ha hb => AimTransition.value_of_angles ha hb,
      rfl, rfl⟩,
    fun h => Fixture.stepOutputs_of_parked _ _ h, fun a h hs => Fixture.stepOutputs_of_stopped _ _ h hs,
    fun a h ha => Fixture.stepOutputs_of_angles _ _ h ha, fun a h ha => Fixture.stepOutputs_of_point _ _ h ha,
    rfl, rfl, decide_eq_true_iff, ⟨rfl, ?_⟩, ?_⟩
  · rw [State.setPass_fxe, State.stored_fxe, hfxe]
  · rw [show (s.outcome p i f).config = f.config from rfl, hprof] at images
    exact State.nextImages_of_lnu images rfl
  · exact (s.stored_eq i f (s.outcome p i f) hasked _).trans (by rw [State.raiseFlags_eq])

end Sys2Proof.Machine

/-! ## The slew limiter -/

namespace Sys2Proof.Machine

/-! ### Clamping about zero -/

/-- A value clamped to n either side of zero is at most n in magnitude. -/
theorem natAbs_clampTo_le (n : Nat) (v : Int) : (clampTo (-n) n v).natAbs ≤ n := by
  unfold clampTo
  split_ifs <;> omega

/-- A value of magnitude at most n is its own clamp. -/
theorem clampTo_eq_self {n : Nat} {v : Int} (h : v.natAbs ≤ n) : clampTo (-n) n v = v := by
  rw [clampTo, if_neg (by omega), if_neg (by omega)]

/-- A clamped step from one value toward another ends between the two. -/
theorem natAbs_add_clampTo_le {v t : Int} {n : Nat} (m : Nat) (hv : v.natAbs ≤ n) (ht : t.natAbs ≤ n) :
    (v + clampTo (-m) m (t - v)).natAbs ≤ n := by
  unfold clampTo
  split_ifs <;> omega

/-! ### The velocity (orders 0 to 3 of R51) -/

/-- The target velocity of order 2 of R51, at the remaining distance e. -/
def slewTarget (vs as : Nat) (e : Int) : Int :=
  if e = 0 then 0 else signOf e * min (vs : Int) (isqrt (2 * as * e.natAbs))

/-- Order 3 moves the velocity that order 0 leaves toward the target velocity. -/
theorem slewVelocity_eq (vs as : Nat) (c v d : Int) : slewVelocity vs as c v d =
    clampTo (-vs) vs v + clampTo (-as) as (slewTarget vs as (d - c) - clampTo (-vs) vs v) := rfl

/-- The target velocity is at most vstep in magnitude. -/
theorem natAbs_slewTarget_le (vs as : Nat) (e : Int) : (slewTarget vs as e).natAbs ≤ vs := by
  unfold slewTarget signOf
  split_ifs <;> omega

/-- The velocity before arrival is at most vstep in magnitude. -/
theorem natAbs_slewVelocity_le (vs as : Nat) (c v d : Int) : (slewVelocity vs as c v d).natAbs ≤ vs :=
  natAbs_add_clampTo_le as (natAbs_clampTo_le vs v) (natAbs_slewTarget_le vs as (d - c))

/-- Order 3 changes a velocity within vstep by at most astep (R52). -/
theorem natAbs_slewVelocity_sub_le {vs : Nat} {v : Int} (as : Nat) (c d : Int) (hv : v.natAbs ≤ vs) :
    (slewVelocity vs as c v d - v).natAbs ≤ as := by
  rw [slewVelocity_eq, clampTo_eq_self hv, add_sub_cancel_left]
  exact natAbs_clampTo_le as _

/-- An axis at rest on its desired angle stays at rest. -/
theorem slewVelocity_at_rest (vs as : Nat) (d : Int) : slewVelocity vs as d 0 d = 0 := by
  have htarget : slewTarget vs as (d - d) = 0 := if_pos (sub_self d)
  rw [slewVelocity_eq, htarget, clampTo_eq_self (by simp), sub_self, clampTo_eq_self (by simp), add_zero]

/-! ### The move (orders 4 to 7 of R51) -/

/-- The velocity after order 4 of R51, which cuts an arrival to the remaining distance e. -/
def slewMove (v e : Int) : Int := if sameSign v e && decide (e.natAbs < v.natAbs) then e else v

/-- Order 4 cuts the velocity only to a shorter distance. -/
theorem natAbs_slewMove_le (v e : Int) : (slewMove v e).natAbs ≤ v.natAbs := by
  unfold slewMove
  split
  · next hcut =>
    simp only [Bool.and_eq_true, decide_eq_true_eq] at hcut
    omega
  · exact le_rfl

/-- Orders 5 to 7 apply the velocity of order 4, rest on arrival, and stop at a window edge. -/
theorem slew_eq (vs as : Nat) (w : Window) (c v d : Int) : slew vs as w c v d =
    let move := slewMove (slewVelocity vs as c v d) (d - c)
    if c + move < w.lo then (w.lo, 0) else if w.hi < c + move then (w.hi, 0)
    else (c + move, if c + move = d ∧ move.natAbs ≤ as then 0 else move) := rfl

/-- What a step of the limiter comes to: a move by at most the velocity of order 3 that ends in the window, with the velocity of
the move or at rest, or one that a window edge stops. -/
theorem slew_cases (vs as : Nat) (w : Window) (c v d : Int) :
    ∃ move : Int, move.natAbs ≤ (slewVelocity vs as c v d).natAbs ∧
      (c + move < w.lo ∧ slew vs as w c v d = (w.lo, 0) ∨
        w.hi < c + move ∧ slew vs as w c v d = (w.hi, 0) ∨
        ∃ u, (u = 0 ∨ u = move) ∧ slew vs as w c v d = (c + move, u)) := by
  refine ⟨_, natAbs_slewMove_le _ (d - c), ?_⟩
  rw [slew_eq]
  dsimp only
  split
  · next hlo => exact .inl ⟨hlo, rfl⟩
  · split
    · next hhi => exact .inr (.inl ⟨hhi, rfl⟩)
    · exact .inr (.inr ⟨_, ite_eq_or_eq .., rfl⟩)

/-- The new velocity is at most vstep in magnitude. -/
theorem natAbs_slew_velocity_le (vs as : Nat) (w : Window) (c v d : Int) : (slew vs as w c v d).2.natAbs ≤ vs := by
  obtain ⟨move, hmove, ⟨-, h⟩ | ⟨-, h⟩ | ⟨u, rfl | rfl, h⟩⟩ := slew_cases vs as w c v d <;> rw [h]
  · exact Nat.zero_le vs
  · exact Nat.zero_le vs
  · exact Nat.zero_le vs
  · exact hmove.trans (natAbs_slewVelocity_le vs as c v d)

/-- A commanded angle in its window moves by at most vstep (R56): an edge that stops it lies on its way. -/
theorem natAbs_slew_sub_le {w : Window} {c : Int} (vs as : Nat) (v d : Int) (hc : w.holds c) :
    ((slew vs as w c v d).1 - c).natAbs ≤ vs := by
  obtain ⟨hlo, hhi⟩ := hc
  have hspeed := natAbs_slewVelocity_le vs as c v d
  obtain ⟨move, hmove, ⟨hbelow, h⟩ | ⟨habove, h⟩ | ⟨u, -, h⟩⟩ := slew_cases vs as w c v d
  all_goals
    simp only [h]
    omega

/-- An axis at rest on a desired angle in its window stays (R53). -/
theorem slew_at_rest {w : Window} {d : Int} (vs as : Nat) (hd : w.holds d) : slew vs as w d 0 d = (d, 0) := by
  obtain ⟨hlo, hhi⟩ := hd
  obtain ⟨move, hmove, hcase⟩ := slew_cases vs as w d 0 d
  obtain rfl : move = 0 := by rwa [slewVelocity_at_rest, Int.natAbs_zero, Nat.le_zero, Int.natAbs_eq_zero] at hmove
  obtain ⟨hbelow, -⟩ | ⟨habove, -⟩ | ⟨u, hu, h⟩ := hcase
  · omega
  · omega
  · rw [h, or_self_iff.mp hu, add_zero]

/-! ### The step limits (R49) -/

/-- The largest step limits are those of the longest step period, 10 ms. -/
theorem vstep_le {vmax period : Nat} (hp : period ≤ 10) (hv : vmax ≤ 1048576) : vstep vmax period ≤ 10485 :=
  max_le (by decide) <| calc
    vmax * period / 1000 ≤ 1048576 * 10 / 1000 := Nat.div_le_div_right (Nat.mul_le_mul hv hp)
    _ = 10485 := rfl

theorem astep_le {amax period : Nat} (hp : period ≤ 10) (ha : amax ≤ 16777216) : astep amax period ≤ 1677 :=
  max_le (by decide) <| calc
    amax * (period * period) / 1000000 ≤ 16777216 * (10 * 10) / 1000000 :=
      Nat.div_le_div_right (Nat.mul_le_mul ha (Nat.mul_le_mul hp hp))
    _ = 1677 := rfl

/-- Settles O33: the step by what it comes to, the step limits by those of the longest period. -/
theorem limiterKeepsItsLimits : Obligations.LimiterKeepsItsLimits := by
  constructor
  · intro vs as w c v d hw
    exact ⟨slew_holds vs as w c v d hw, natAbs_slew_velocity_le vs as w c v d, natAbs_slew_sub_le vs as v d,
      natAbs_slewVelocity_sub_le as c d, slew_at_rest vs as⟩
  · intro vmax amax period hperiod hv ha
    have hp : period ≤ 10 := by
      simp only [List.mem_cons, List.not_mem_nil, or_false] at hperiod
      omega
    have hastep : astep amax period = max 1 (amax * period ^ 2 / 1000000) := by rw [astep, sq]
    exact ⟨rfl, le_max_left _ _, vstep_le hp hv, hastep, le_max_left _ _, astep_le hp ha⟩

end Sys2Proof.Machine

/-! ## Keep-out zones -/

namespace Sys2Proof.Machine

/-! ### The inside of a box (R68) -/

theorem Zone.contains_iff (z : Zone) (p : Point) :
    z.contains p = true ↔ z.x.lo < p.x ∧ p.x < z.x.hi ∧ z.y.lo < p.y ∧ p.y < z.y.hi ∧ z.z.lo < p.z ∧ p.z < z.z.hi := by
  simp [Zone.contains, and_assoc]

theorem Zone.not_contains_of_flat {z : Zone} (h : z.x.lo = z.x.hi ∨ z.y.lo = z.y.hi ∨ z.z.lo = z.z.hi) (p : Point) :
    z.contains p = false := by
  rw [Bool.eq_false_iff, ne_eq, z.contains_iff]
  omega

/-- A point inside a box is at least 1 mm from each face. -/
theorem Zone.one_le_of_mem_faces {z : Zone} {p : Point} (h : z.contains p = true) {face : Int × Point}
    (hface : face ∈ z.faces p) : 1 ≤ face.1 := by
  rw [z.contains_iff] at h
  simp only [Zone.faces, List.mem_cons, List.not_mem_nil, or_false] at hface
  obtain rfl | rfl | rfl | rfl | rfl | rfl := hface <;> dsimp only <;> omega

/-- The point moved to a face is not inside. -/
theorem Zone.not_contains_of_mem_faces {z : Zone} {p : Point} {face : Int × Point} (hface : face ∈ z.faces p) :
    z.contains face.2 = false := by
  rw [Bool.eq_false_iff, ne_eq, z.contains_iff]
  simp only [Zone.faces, List.mem_cons, List.not_mem_nil, or_false] at hface
  obtain rfl | rfl | rfl | rfl | rfl | rfl := hface <;> dsimp only <;> omega

/-- Settles O34. -/
theorem zoneInsideIsStrict : Obligations.ZoneInsideIsStrict := by
  intro z p
  refine ⟨z.contains_iff p, fun h => Zone.not_contains_of_flat h p, fun h d hd => ?_⟩
  obtain ⟨face, hface, rfl⟩ := List.mem_map.mp hd
  exact Zone.one_le_of_mem_faces h hface

/-! ### The nearest face (R72) -/

/-- The face at place `i` is the first of least distance: none is nearer, and each before it is farther. -/
def isNearestFace (faces : List (Int × Point)) (i : Fin faces.length) : Prop :=
  ∀ j : Fin faces.length, (faces.get i).1 ≤ (faces.get j).1 ∧ (j < i → (faces.get i).1 < (faces.get j).1)

/-- A nearer face after `best` takes its place. -/
theorem isNearestFace_of_nearer {best f : Int × Point} {rest : List (Int × Point)} (hlt : f.1 < best.1)
    {i : Fin (f :: rest).length} (hi : isNearestFace (f :: rest) i) : isNearestFace (best :: f :: rest) i.succ := by
  refine Fin.cases ?_ fun j => ?_
  · have hbest : ((f :: rest).get i).1 < best.1 := (hi 0).1.trans_lt hlt
    exact ⟨hbest.le, fun _ => hbest⟩
  · exact ⟨(hi j).1, fun h => (hi j).2 (Fin.succ_lt_succ_iff.mp h)⟩

/-- A face after `best` that is no nearer may be left out of the search. -/
theorem isNearestFace_of_not_nearer {best f : Int × Point} {rest : List (Int × Point)} (hle : best.1 ≤ f.1)
    {i : Fin (best :: rest).length} (hi : isNearestFace (best :: rest) i) :
    ∃ k, isNearestFace (best :: f :: rest) k ∧ (best :: f :: rest).get k = (best :: rest).get i := by
  induction i using Fin.cases with
  | zero =>
    refine ⟨0, fun j => ⟨?_, fun h => absurd h (Fin.not_lt_zero j)⟩, rfl⟩
    induction j using Fin.cases with
    | zero => exact le_refl _
    | succ j =>
      induction j using Fin.cases with
      | zero => exact hle
      | succ j => exact (hi j.succ).1
  | succ i =>
    have hbest : (rest.get i).1 < best.1 := (hi 0).2 i.succ_pos
    refine ⟨i.succ.succ, fun j => ?_, rfl⟩
    induction j using Fin.cases with
    | zero => exact ⟨hbest.le, fun _ => hbest⟩
    | succ j =>
      induction j using Fin.cases with
      | zero => exact ⟨(hbest.trans_le hle).le, fun _ => hbest.trans_le hle⟩
      | succ j => exact ⟨(hi j.succ).1, fun h => (hi j.succ).2 (Fin.succ_lt_succ_iff.mp h)⟩

theorem nearestFace_isNearest (best : Int × Point) (rest : List (Int × Point)) :
    ∃ i, isNearestFace (best :: rest) i ∧ nearestFace best rest = ((best :: rest).get i).2 := by
  induction rest generalizing best with
  | nil => exact ⟨0, fun j => by simp [Fin.fin_one_eq_zero j], rfl⟩
  | cons f rest ih =>
    rw [nearestFace]
    split_ifs with hlt
    · obtain ⟨i, hi, hpoint⟩ := ih f
      exact ⟨i.succ, isNearestFace_of_nearer hlt hi, hpoint⟩
    · obtain ⟨i, hi, hpoint⟩ := ih best
      obtain ⟨k, hk, hget⟩ := isNearestFace_of_not_nearer (not_lt.mp hlt) hi
      exact ⟨k, hk, by rw [hpoint, hget]⟩

theorem Zone.push_isNearest (z : Zone) (p : Point) :
    ∃ i, isNearestFace (z.faces p) i ∧ z.push p = ((z.faces p).get i).2 :=
  nearestFace_isNearest _ _

theorem Zone.not_contains_push (z : Zone) (p : Point) : z.contains (z.push p) = false := by
  obtain ⟨i, -, hpush⟩ := z.push_isNearest p
  rw [hpush]
  exact Zone.not_contains_of_mem_faces (List.get_mem ..)

/-! ### The CLAMP stage (R71) -/

@[simp] theorem clampStage_nil (groups : BitVec 32) (acc : Point × Bool) : clampStage groups [] acc = acc := rfl

theorem clampStage_cons (groups : BitVec 32) (z : Zone) (rest : List Zone) (acc : Point × Bool) :
    clampStage groups (z :: rest) acc = clampStage groups rest
      (if z.applies groups = true ∧ z.mode = .clamp ∧ z.contains acc.1 = true then (z.push acc.1, true) else acc) := by
  simp [clampStage, and_assoc]

/-- A zone in which the point does not lie, which does not apply, or which is not CLAMP is passed over. -/
theorem clampStage_cons_of_idle {groups : BitVec 32} {z : Zone} {acc : Point × Bool}
    (h : z.contains acc.1 = false ∨ z.applies groups = false ∨ z.mode = .blank) (rest : List Zone) :
    clampStage groups (z :: rest) acc = clampStage groups rest acc := by
  rw [clampStage_cons, if_neg]
  rintro ⟨happlies, hmode, hinside⟩
  simp [happlies, hmode, hinside] at h

theorem clampStage_of_blank {groups : BitVec 32} {zones : List Zone} (h : ∀ z ∈ zones, z.mode = .blank)
    (acc : Point × Bool) : clampStage groups zones acc = acc := by
  induction zones with
  | nil => rfl
  | cons z rest ih =>
    obtain ⟨hz, hrest⟩ := List.forall_mem_cons.mp h
    rw [clampStage_cons_of_idle (.inr (.inr hz)), ih hrest]

/-- No zone clears the flag. -/
theorem clampStage_flag {groups : BitVec 32} {acc : Point × Bool} (h : acc.2 = true) (zones : List Zone) :
    (clampStage groups zones acc).2 = true := by
  induction zones generalizing acc with
  | nil => exact h
  | cons z rest ih =>
    rw [clampStage_cons]
    split
    · exact ih rfl
    · exact ih h

/-- While the flag is clear, no zone has moved the point. -/
theorem clampStage_of_flag_false {groups : BitVec 32} {zones : List Zone} {acc : Point × Bool}
    (h : (clampStage groups zones acc).2 = false) : clampStage groups zones acc = acc := by
  induction zones with
  | nil => rfl
  | cons z rest ih =>
    rw [clampStage_cons] at h ⊢
    split at h
    · rw [clampStage_flag rfl] at h
      cases h
    · next hidle => rw [if_neg hidle, ih h]

/-- Settles O35: the point goes to the first face of least distance. -/
theorem clampZoneMovesToNearestFace : Obligations.ClampZoneMovesToNearestFace := by
  intro z p groups flag
  refine ⟨fun hinside happlies hmode => ?_, fun h => clampStage_cons_of_idle h [], fun _ => ⟨z.not_contains_push p, ?_⟩⟩
  · rw [clampStage_cons, if_pos ⟨happlies, hmode, hinside⟩, clampStage_nil]
  · obtain ⟨i, hnearest, hpush⟩ := z.push_isNearest p
    have hdist (j : Fin 6) : ((z.faces p).map Prod.fst).getD j.val 0 = ((z.faces p).get j).1 := by
      fin_cases j <;> rfl
    have hpoint : ((z.faces p).map Prod.snd).getD i.val p = ((z.faces p).get i).2 := by
      fin_cases i <;> rfl
    refine ⟨i, hpush.trans hpoint.symm, fun j => ?_⟩
    have h := hnearest j
    rw [← hdist i, ← hdist j] at h
    exact h

/-! ### The sticks and zones that apply (R69, R153) -/

theorem Stick.appliesTo_iff (k : Stick) (groups : BitVec 32) :
    k.appliesTo groups = true ↔ ∃ g : Fin 32, k.group = some g ∧ groups.getLsbD g.val = true :=
  Option.any_eq_true ..

/-- The offsets of the applying sticks add up on x and y. -/
theorem addSticks_eq (sticks : List Stick) (groups : BitVec 32) (p : Point) :
    addSticks sticks groups p =
      { x := p.x + ((sticks.filter fun k => k.appliesTo groups).map Stick.offsetX).sum
        y := p.y + ((sticks.filter fun k => k.appliesTo groups).map Stick.offsetY).sum
        z := p.z } := by
  induction sticks generalizing p with
  | nil => simp [addSticks]
  | cons k rest ih =>
    rw [addSticks, List.foldl_cons, ← addSticks, ih]
    by_cases happlies : k.appliesTo groups = true
    · simp [happlies, add_assoc]
    · simp [happlies]

/-- Two group sets meet when they share a group. -/
theorem and_ne_zero_iff_shared {w : Nat} (a b : BitVec w) :
    a &&& b ≠ 0 ↔ ∃ g : Fin w, a.getLsbD g.val = true ∧ b.getLsbD g.val = true := by
  constructor
  · contrapose!
    intro h
    refine BitVec.eq_of_getLsbD_eq fun i hi => ?_
    simpa using h ⟨i, hi⟩
  · rintro ⟨g, ha, hb⟩ hzero
    have hbit : (a &&& b).getLsbD g.val = true := by rw [BitVec.getLsbD_and, ha, hb, Bool.and_self]
    simp [hzero] at hbit

theorem Zone.applies_iff (z : Zone) (groups : BitVec 32) :
    z.applies groups = true ↔
      z.enabled = true ∧ (z.groups = 0 ∨ ∃ g : Fin 32, z.groups.getLsbD g.val = true ∧ groups.getLsbD g.val = true) := by
  rw [← and_ne_zero_iff_shared]
  simp [Zone.applies]

/-! ### The BLANK test (R73) -/

theorem blankTest_iff (groups : BitVec 32) (zones : List Zone) (p : Point) :
    blankTest groups zones p = true ↔ ∃ z ∈ zones, z.applies groups = true ∧ z.contains p = true := by
  simp [blankTest]

/-- Settles O36: the two stages of step 3, over the sticks and zones that apply. -/
theorem zoneCheckBlanksInside : Obligations.ZoneCheckBlanksInside := by
  intro zones sticks groups p
  exact ⟨fun k _ => k.appliesTo_iff groups, addSticks_eq sticks groups p, rfl, fun moved => clampStage_nil groups (p, moved),
    fun z rest moved => clampStage_cons groups z rest (p, moved), fun z _ => z.applies_iff groups, blankTest_iff groups zones _,
    fun h => congrArg Prod.fst (clampStage_of_flag_false h), fun h => congrArg Prod.snd (clampStage_of_blank h _)⟩

end Sys2Proof.Machine

/-! ## Colour and level -/

namespace Sys2Proof.Machine

/-! ### Stage 3: the gamut stage (R84 to R87) -/

section
variable {e : Rgb}

/-- Every drive lies in 0..65535. -/
def Rgb.inRange (e : Rgb) : Prop := ∀ v ∈ [e.r, e.g, e.b], 0 ≤ v ∧ v ≤ 65535

theorem Rgb.inRange_iff : e.inRange ↔ (0 ≤ e.r ∧ e.r ≤ 65535) ∧ (0 ≤ e.g ∧ e.g ≤ 65535) ∧ 0 ≤ e.b ∧ e.b ≤ 65535 := by
  simp [Rgb.inRange]

theorem Rgb.inRange_iff_largest : e.inRange ↔ (0 ≤ e.r ∧ 0 ≤ e.g ∧ 0 ≤ e.b) ∧ e.largest ≤ 65535 := by
  rw [Rgb.inRange_iff, Rgb.largest, max_le_iff, max_le_iff]
  tauto

theorem cutNegative_nonneg (e : Rgb) : 0 ≤ (cutNegative e).r ∧ 0 ≤ (cutNegative e).g ∧ 0 ≤ (cutNegative e).b :=
  ⟨le_max_left _ _, le_max_left _ _, le_max_left _ _⟩

theorem cutNegative_of_nonneg (h : 0 ≤ e.r ∧ 0 ≤ e.g ∧ 0 ≤ e.b) : cutNegative e = e := by
  obtain ⟨hr, hg, hb⟩ := h
  rw [cutNegative, max_eq_right hr, max_eq_right hg, max_eq_right hb]

theorem limitDrive_of_le (mode : GamutMode) (h : e.largest ≤ 65535) : limitDrive mode e = e := if_neg h.not_gt

theorem limitDrive_clip (h : 65535 < e.largest) :
    limitDrive .clip e = { r := min 65535 e.r, g := min 65535 e.g, b := min 65535 e.b } := by
  rw [limitDrive, if_pos h, min_comm e.r, min_comm e.g, min_comm e.b]

theorem limitDrive_scale (h : 65535 < e.largest) :
    limitDrive .scale e = { r := e.r * 65535 / e.largest, g := e.g * 65535 / e.largest, b := e.b * 65535 / e.largest } :=
  if_pos h

/-- Under SCALE the largest drive becomes full scale: the scaling is monotonic, so it commutes with the maximum. -/
theorem limitDrive_scale_largest (h : 65535 < e.largest) : (limitDrive .scale e).largest = 65535 := by
  have hpos : 0 < e.largest := by omega
  have hmono : Monotone fun v : Int => v * 65535 / e.largest := fun v w hvw =>
    Int.ediv_le_ediv hpos (mul_le_mul_of_nonneg_right hvw (by decide))
  calc (limitDrive .scale e).largest
      = max (e.r * 65535 / e.largest) (max (e.g * 65535 / e.largest) (e.b * 65535 / e.largest)) := by
        rw [limitDrive_scale h, Rgb.largest]
    _ = e.largest * 65535 / e.largest := (hmono.map_max.trans (congrArg _ hmono.map_max)).symm
    _ = 65535 := Int.mul_ediv_cancel_left _ hpos.ne'

/-- Drives that are not negative are in range after the limit of either mode. -/
theorem limitDrive_inRange (mode : GamutMode) (h : 0 ≤ e.r ∧ 0 ≤ e.g ∧ 0 ≤ e.b) : (limitDrive mode e).inRange := by
  by_cases hle : e.largest ≤ 65535
  · rw [limitDrive_of_le mode hle, Rgb.inRange_iff_largest]
    exact ⟨h, hle⟩
  · have hlt : 65535 < e.largest := not_le.mp hle
    obtain ⟨hr, hg, hb⟩ := h
    cases mode with
    | clip =>
      rw [limitDrive_clip hlt, Rgb.inRange_iff]
      exact ⟨⟨le_min (by decide) hr, min_le_left _ _⟩, ⟨le_min (by decide) hg, min_le_left _ _⟩,
        le_min (by decide) hb, min_le_left _ _⟩
    | scale =>
      have scaled_nonneg : ∀ {v : Int}, 0 ≤ v → 0 ≤ v * 65535 / e.largest := fun hv =>
        Int.ediv_nonneg (by omega) (by omega)
      rw [Rgb.inRange_iff_largest]
      refine ⟨?_, (limitDrive_scale_largest hlt).le⟩
      rw [limitDrive_scale hlt]
      exact ⟨scaled_nonneg hr, scaled_nonneg hg, scaled_nonneg hb⟩

theorem gamutStage_fst (mode : GamutMode) (e : Rgb) : (gamutStage mode e).1 = limitDrive mode (cutNegative e) := rfl

theorem gamutStage_inRange (mode : GamutMode) (e : Rgb) : (gamutStage mode e).1.inRange :=
  limitDrive_inRange mode (cutNegative_nonneg e)

theorem gamutStage_snd_iff (mode : GamutMode) (e : Rgb) :
    (gamutStage mode e).2 = true ↔ cutNegative e ≠ e ∨ 65535 < (cutNegative e).largest := by
  simp [gamutStage]

/-- GAMUT is clear exactly for the drives in range, and these are the ones the stage leaves as they are. -/
theorem gamutStage_changed_iff (mode : GamutMode) (e : Rgb) : (gamutStage mode e).2 = true ↔ (gamutStage mode e).1 ≠ e := by
  rw [← not_iff_not, gamutStage_snd_iff, not_or, not_not, not_not, not_lt]
  constructor
  · rintro ⟨hcut, hle⟩
    rw [gamutStage_fst, limitDrive_of_le mode hle, hcut]
  · intro hsame
    have hrange := gamutStage_inRange mode e
    rw [hsame, Rgb.inRange_iff_largest] at hrange
    obtain ⟨hnonneg, hle⟩ := hrange
    rw [cutNegative_of_nonneg hnonneg]
    exact ⟨rfl, hle⟩

end

/-- Settles O37: the cut, then the limit of either mode. -/
theorem gamutStageLimitsDrive : Obligations.GamutStageLimitsDrive := by
  intro mode e
  refine ⟨fun hle => limitDrive_of_le mode hle, ?_, ?_, gamutStage_inRange mode e, gamutStage_changed_iff mode e⟩
  · rintro hlt rfl
    exact limitDrive_clip hlt
  · rintro hlt rfl
    exact ⟨limitDrive_scale hlt, limitDrive_scale_largest hlt⟩

/-! ### Stages 4 to 6: level, blanking and curve (R88 to R91) -/

/-- The curve acts on the drive after level and blanking. -/
theorem finalDrive_eq_curve (c : Curve) (level : Nat) (dark : Bool) (e : Nat) :
    finalDrive c level dark e = finalDrive c 65535 false (if dark then 0 else e * level / 65535) := by
  simp only [finalDrive, Bool.false_eq_true, if_false, Nat.mul_div_cancel _ (show 0 < 65535 by decide)]

theorem finalDrive_linear_full (e : Nat) : finalDrive .linear 65535 false e = e := Nat.mul_div_cancel e (by decide)

theorem finalDrive_square_full (e : Nat) : finalDrive .square 65535 false e = e ^ 2 / 65535 := by
  simp [finalDrive, sq]

theorem finalDrive_zero (c : Curve) : finalDrive c 65535 false 0 = 0 := by
  cases c <;> rfl

theorem finalDrive_full (c : Curve) : finalDrive c 65535 false 65535 = 65535 := by
  cases c with
  | linear => exact finalDrive_linear_full 65535
  | square => exact finalDrive_square_full 65535

theorem finalDrive_mono (c : Curve) {e f : Nat} (h : e ≤ f) : finalDrive c 65535 false e ≤ finalDrive c 65535 false f := by
  cases c with
  | linear => rwa [finalDrive_linear_full, finalDrive_linear_full]
  | square =>
    rw [finalDrive_square_full, finalDrive_square_full]
    exact Nat.div_le_div_right (Nat.pow_le_pow_left h 2)

theorem finalDrive_square_eq_zero {e : Nat} (h : e ≤ 255) : finalDrive .square 65535 false e = 0 :=
  Nat.le_zero.mp <| calc
    finalDrive .square 65535 false e ≤ finalDrive .square 65535 false 255 := finalDrive_mono .square h
    _ = 0 := finalDrive_square_full 255

theorem finalDrive_dark (c : Curve) (level e : Nat) : finalDrive c level true e = 0 :=
  (finalDrive_eq_curve c level true e).trans (finalDrive_zero c)

/-- A drive in range stays in range: level and blanking do not raise it, and the curve keeps full scale. -/
theorem finalDrive_le (c : Curve) {level e : Nat} (dark : Bool) (hlevel : level ≤ 65535) (he : e ≤ 65535) :
    finalDrive c level dark e ≤ 65535 := by
  have hlit : e * level / 65535 ≤ 65535 := Nat.div_le_of_le_mul (Nat.mul_le_mul he hlevel)
  rw [finalDrive_eq_curve]
  calc finalDrive c 65535 false (if dark then 0 else e * level / 65535)
      ≤ finalDrive c 65535 false 65535 := finalDrive_mono c (by split <;> omega)
    _ = 65535 := finalDrive_full c

/-- Settles O39: the curve at full level, then every level through the curve. -/
theorem emitterCurve : Obligations.EmitterCurve :=
  ⟨finalDrive_linear_full, finalDrive_square_full, fun c => ⟨finalDrive_zero c, finalDrive_full c⟩,
    fun c _ _ => finalDrive_mono c, finalDrive_square_full 32768, fun _ => finalDrive_square_eq_zero,
    fun c level dark e => ⟨finalDrive_eq_curve c level dark e, finalDrive_le c dark⟩⟩

/-! ### Stage 1: white extraction (R80 to R82) -/

section
variable {p : Profile} {c : Colour} {w : Rgb}

/-- The white drive W against a white vector. -/
def whitePart (c : Colour) (w : Rgb) : Nat := whiteCapacity c w * c.wmix / 256

theorem whiteDrive_of_none (h : p.whiteVector = none) (c : Colour) : whiteDrive p c = none := by
  rw [whiteDrive, h, Option.map_none]

theorem whiteDrive_of_some (h : p.whiteVector = some w) (c : Colour) : whiteDrive p c = some (whitePart c w) := by
  rw [whiteDrive, h, Option.map_some, whitePart]

theorem residual_of_none (h : p.whiteVector = none) (c : Colour) : residual p c = { r := c.r, g := c.g, b := c.b } := by
  simp only [residual, h]

theorem residual_of_some (h : p.whiteVector = some w) (c : Colour) :
    residual p c = { r := c.r - halfUp (whitePart c w * w.r) 65535, g := c.g - halfUp (whitePart c w * w.g) 65535,
                     b := c.b - halfUp (whitePart c w * w.b) 65535 } := by
  simp only [residual, h, whitePart]

theorem toNat_mul_ediv (x : Nat) {v : Int} (hv : 0 ≤ v) : ((x : Int) * 65535 / v).toNat = x * 65535 / v.toNat := by
  obtain ⟨n, rfl⟩ := Int.eq_ofNat_of_zero_le hv
  exact_mod_cast Int.toNat_natCast (x * 65535 / n)

theorem whiteCapacity_eq (c : Colour) (hr : 0 ≤ w.r) (hg : 0 ≤ w.g) (hb : 0 ≤ w.b) : whiteCapacity c w =
    min 65535 (min (c.r * 65535 / w.r.toNat) (min (c.g * 65535 / w.g.toNat) (c.b * 65535 / w.b.toNat))) := by
  simp only [whiteCapacity, toNat_mul_ediv, hr, hg, hb]

theorem whitePart_le_whiteCapacity (hmix : c.wmix ≤ 256) (w : Rgb) : whitePart c w ≤ whiteCapacity c w :=
  Nat.div_le_of_le_mul (by rw [Nat.mul_comm 256]; exact Nat.mul_le_mul_left _ hmix)

theorem whitePart_of_wmix_zero (h : c.wmix = 0) (w : Rgb) : whitePart c w = 0 := by
  rw [whitePart, h, Nat.mul_zero, Nat.zero_div]

theorem whiteDrive_le (hmix : c.wmix ≤ 256) {n : Nat} (h : whiteDrive p c = some n) : n ≤ 65535 := by
  obtain ⟨w, -, rfl⟩ := Option.map_eq_some_iff.mp h
  exact (whitePart_le_whiteCapacity hmix w).trans (min_le_left _ _)

/-- A white drive within the capacity of a channel takes at most the channel. -/
theorem halfUp_share_le {drive x : Nat} {v : Int} (hv : 0 < v) (h : drive ≤ x * 65535 / v.toNat) :
    halfUp (drive * v) 65535 ≤ x := by
  have hshare : drive * v.toNat ≤ 65535 * x := by
    rw [Nat.mul_comm 65535]
    exact (Nat.le_div_iff_mul_le (by omega)).mp h
  calc halfUp (drive * v) 65535 ≤ halfUp (65535 * x) 65535 :=
        halfUp_le_halfUp (by decide) (by rw [← Int.toNat_of_nonneg hv.le]; exact_mod_cast hshare)
    _ = x := halfUp_mul _ (by decide)

theorem residual_nonneg (hw : ∀ w, p.whiteVector = some w → 0 < w.r ∧ 0 < w.g ∧ 0 < w.b) (hmix : c.wmix ≤ 256) :
    0 ≤ (residual p c).r ∧ 0 ≤ (residual p c).g ∧ 0 ≤ (residual p c).b := by
  cases h : p.whiteVector with
  | none =>
    rw [residual_of_none h]
    exact ⟨Int.natCast_nonneg _, Int.natCast_nonneg _, Int.natCast_nonneg _⟩
  | some w =>
    obtain ⟨hr, hg, hb⟩ := hw w h
    have hpart := whitePart_le_whiteCapacity hmix w
    rw [whiteCapacity_eq c hr.le hg.le hb.le, le_min_iff, le_min_iff, le_min_iff] at hpart
    obtain ⟨-, hcapR, hcapG, hcapB⟩ := hpart
    rw [residual_of_some h]
    exact ⟨sub_nonneg.mpr (halfUp_share_le hr hcapR), sub_nonneg.mpr (halfUp_share_le hg hcapG),
      sub_nonneg.mpr (halfUp_share_le hb hcapB)⟩

theorem residual_of_wmix_zero (p : Profile) (h : c.wmix = 0) : residual p c = { r := c.r, g := c.g, b := c.b } := by
  cases hv : p.whiteVector with
  | none => exact residual_of_none hv c
  | some w =>
    have hshare : ∀ v : Int, halfUp ((0 : Nat) * v) 65535 = 0 := fun v => by
      rw [Nat.cast_zero, zero_mul]
      rfl
    rw [residual_of_some hv, whitePart_of_wmix_zero h, hshare, hshare, hshare, sub_zero, sub_zero, sub_zero]

/-- What a channel lost to white is the half-up rounding of its share. -/
theorem isHalfUp_sub_sub_halfUp (x n : Int) : isHalfUp (x - (x - halfUp n 65535)) n 65535 := by
  rw [sub_sub_cancel]
  exact halfUp_isHalfUp n 65535 (by decide)

end

/-! ### The pipeline as a whole (R79) -/

theorem rowDrive_isHalfAway (row res : Rgb) :
    isHalfAway (rowDrive row res) (row.r * res.r + row.g * res.g + row.b * res.b) 16384 :=
  halfAway_isHalfAway _ 16384 (by decide)

section
variable (p : Profile) (c : Colour) (level : Nat) (dark : Bool)

/-- The primary drives that stage 3 hands to stage 4. -/
def limitedDrive (p : Profile) (c : Colour) : Rgb := (gamutStage p.gamut (matrixDrive p (residual p c))).1

theorem limitedDrive_inRange : (limitedDrive p c).inRange := gamutStage_inRange _ _

theorem colourPipeline_primaries :
    (colourPipeline p c level dark).red = finalDrive p.curve level dark (limitedDrive p c).r.toNat ∧
    (colourPipeline p c level dark).green = finalDrive p.curve level dark (limitedDrive p c).g.toNat ∧
    (colourPipeline p c level dark).blue = finalDrive p.curve level dark (limitedDrive p c).b.toNat := ⟨rfl, rfl, rfl⟩

theorem colourPipeline_white :
    (colourPipeline p c level dark).white = (whiteDrive p c).map (finalDrive p.curve level dark) := rfl

variable {p c level}

theorem colourPipeline_le (hmix : c.wmix ≤ 256) (hlevel : level ≤ 65535) :
    (colourPipeline p c level dark).red ≤ 65535 ∧ (colourPipeline p c level dark).green ≤ 65535 ∧
    (colourPipeline p c level dark).blue ≤ 65535 ∧ ∀ w, (colourPipeline p c level dark).white = some w → w ≤ 65535 := by
  obtain ⟨⟨-, hr⟩, ⟨-, hg⟩, -, hb⟩ := Rgb.inRange_iff.mp (limitedDrive_inRange p c)
  obtain ⟨hred, hgreen, hblue⟩ := colourPipeline_primaries p c level dark
  rw [hred, hgreen, hblue, colourPipeline_white]
  refine ⟨finalDrive_le _ dark hlevel (by omega), finalDrive_le _ dark hlevel (by omega),
    finalDrive_le _ dark hlevel (by omega), fun w hw => ?_⟩
  obtain ⟨n, hn, rfl⟩ := Option.map_eq_some_iff.mp hw
  exact finalDrive_le _ dark hlevel (whiteDrive_le hmix hn)

variable (p c level)

theorem colourPipeline_dark :
    (colourPipeline p c level true).red = 0 ∧ (colourPipeline p c level true).green = 0 ∧
    (colourPipeline p c level true).blue = 0 ∧ ∀ w, (colourPipeline p c level true).white = some w → w = 0 := by
  obtain ⟨hred, hgreen, hblue⟩ := colourPipeline_primaries p c level true
  rw [hred, hgreen, hblue, colourPipeline_white]
  refine ⟨finalDrive_dark .., finalDrive_dark .., finalDrive_dark .., fun w hw => ?_⟩
  obtain ⟨n, -, rfl⟩ := Option.map_eq_some_iff.mp hw
  exact finalDrive_dark ..

variable {p}

theorem colourPipeline_linear_full (h : p.curve = .linear) :
    ((colourPipeline p c 65535 false).red : Int) = (limitedDrive p c).r ∧
    ((colourPipeline p c 65535 false).green : Int) = (limitedDrive p c).g ∧
    ((colourPipeline p c 65535 false).blue : Int) = (limitedDrive p c).b ∧
    (colourPipeline p c 65535 false).white = whiteDrive p c := by
  obtain ⟨⟨hr, -⟩, ⟨hg, -⟩, hb, -⟩ := Rgb.inRange_iff.mp (limitedDrive_inRange p c)
  obtain ⟨hred, hgreen, hblue⟩ := colourPipeline_primaries p c 65535 false
  have hid : finalDrive p.curve 65535 false = id := h ▸ funext finalDrive_linear_full
  rw [hred, hgreen, hblue, colourPipeline_white, hid, Option.map_id]
  exact ⟨Int.toNat_of_nonneg hr, Int.toNat_of_nonneg hg, Int.toNat_of_nonneg hb, rfl⟩

end

/-- Settles O38: stage by stage, each by its own rounding, then the emitters by what `finalDrive` does to one drive. -/
theorem colourPipelineStaysInRange : Obligations.ColourPipelineStaysInRange := by
  intro p c level hvector _ _ _ hmix hlevel
  have hpos : ∀ w, p.whiteVector = some w → 0 < w.r ∧ 0 < w.g ∧ 0 < w.b := fun w hw => by
    simpa [Int.lt_iff_add_one_le] using fun v hv => (hvector w hw v hv).1
  refine ⟨fun hnone => ⟨whiteDrive_of_none hnone c, residual_of_none hnone c⟩, fun w hw => ?_, residual_nonneg hpos hmix,
    residual_of_wmix_zero p, ⟨rowDrive_isHalfAway _ _, rowDrive_isHalfAway _ _, rowDrive_isHalfAway _ _⟩,
    fun dark => ⟨⟨rfl, rfl, rfl, rfl, rfl⟩, colourPipeline_le dark hmix hlevel⟩, colourPipeline_dark p c level,
    colourPipeline_linear_full c⟩
  obtain ⟨hr, hg, hb⟩ := hpos w hw
  intro m white
  have hwhite : whitePart c w = white := by rw [whitePart, whiteCapacity_eq c hr.le hg.le hb.le]
  rw [residual_of_some hw, ← hwhite]
  exact ⟨whiteDrive_of_some hw c, isHalfUp_sub_sub_halfUp _ _, isHalfUp_sub_sub_halfUp _ _, isHalfUp_sub_sub_halfUp _ _⟩

end Sys2Proof.Machine

/-! ## GO -/

namespace Sys2Proof.Machine

/-! ### The counts of a firing (R107, R108) -/

/-- The transitions that listed parts give: one for the aim, the colour and the level a part sets, on each fixture it names. -/
def State.transitionsOf (s : State) (l : List PartRecord) : Nat :=
  (l.map fun p => (s.partFixtures p).length * p.attributeCount).sum

theorem State.transitionsOf_cons (s : State) (p : PartRecord) (l : List PartRecord) :
    s.transitionsOf (p :: l) = (s.partFixtures p).length * p.attributeCount + s.transitionsOf l := rfl

/-- A fired part leaves what later parts name as it was: it defines no fixture and changes no group. -/
theorem Firing.partFixtures_firePart (w : Firing) (p p' : PartRecord) (s : State) :
    (s.modifyFixtures (s.partFixtures p) fun f => w.firePart p s f).partFixtures p' = s.partFixtures p' := by
  unfold State.partFixtures
  cases p'.selector with
  | none => rfl
  | some sel =>
    simp only [Option.map_some, Option.getD_some, State.expand_eq]
    refine List.filter_congr fun i _ => ?_
    have hfired := Firing.part_fixture? w p s i
    unfold State.partFixtures at hfired
    rw [hfired, Option.any_map]
    congr 1
    funext f
    split
    · exact Selector.names_given ..
    · rfl

/-- A firing that keeps fades and delays leaves a part waiting exactly when the part has a delay (R109, R110). -/
theorem Firing.delay_eq_zero_iff {w : Firing} (hw : w.snapped = false) (p : PartRecord) : w.delay p = 0 ↔ p.delay = 0 := by
  have hlimit : w.delay p = min p.delay.toNat 600000 := by simp [Firing.delay, hw, limitFade, Config.maxFade]
  rw [hlimit, BitVec.toNat_eq]
  simp

/-- The walk counts the starts over the parts without a delay, and the pending transitions over those with one. -/
theorem Firing.walk_counts {w : Firing} (hw : w.snapped = false) (parts : List PartRecord) (s : State) (a b : Nat) :
    (w.walk parts (s, a, b)).2 = (a + s.transitionsOf (parts.filter fun p => p.delay == 0),
      b + s.transitionsOf (parts.filter fun p => p.delay != 0)) := by
  induction parts generalizing s a b with
  | nil => rfl
  | cons p rest ih =>
    have hnamed : (s.modifyFixtures (s.partFixtures p) fun f => w.firePart p s f).transitionsOf = s.transitionsOf := by
      funext l
      simp only [State.transitionsOf, Firing.partFixtures_firePart]
    simp only [Firing.walk]
    rw [ih, hnamed]
    by_cases hd : p.delay = 0#32 <;>
      simp [Firing.delay_eq_zero_iff hw, hd, State.transitionsOf_cons, Nat.add_assoc]

/-- The firing of an accepted GO (R107). -/
def State.goFiring (s : State) (c : Fin 96) : Firing := { cue := c.val, moment := .onLocal s.localClock, snapped := false }

/-- An accepted GO walks the parts of its cue, and answers the counts over all of them. -/
theorem State.goCue_eq (s : State) (c : Fin 96) :
    s.goCue c = (((s.goFiring c).walk (s.cueOf c).parts (s, 0, 0)).1, .ok
      (be16 (s.transitionsOf ((s.cueOf c).parts.filter fun p => p.delay == 0)) ++
        be16 (s.transitionsOf ((s.cueOf c).parts.filter fun p => p.delay != 0)))) := by
  have hcounts := Firing.walk_counts (w := s.goFiring c) rfl (s.cueOf c).parts s 0 0
  rw [Nat.zero_add, Nat.zero_add] at hcounts
  exact congrArg (fun n : Nat × Nat => (((s.goFiring c).walk (s.cueOf c).parts (s, 0, 0)).1,
    Answer.ok (be16 n.1 ++ be16 n.2))) hcounts

/-- Settles O44: the walk of GO over the parts, with its counts and with what it gives each fixture. -/
theorem goFiresCue : Obligations.GoFiresCue := by
  intro s q c hserving hpayload hready total
  have hc := u8_index c (by decide) hpayload
  have hlength : hasLength q 1 = true := hasLength_of_eq hpayload
  refine ⟨((s.goFiring c).walk (s.cueOf c).parts (s, 0, 0)).1, (congrArg _ (State.serve_accepted hserving ?_)).trans ?_,
    Firing.walk_spec (s.goFiring c) (s.cueOf c).parts s 0 0⟩
  · simp [hlength, hc, cueField_eq hc, hready]
  · rw [cueField_eq hc, State.goCue_eq]
    rfl

end Sys2Proof.Machine

/-! ## The part pool and the build of a cue -/

namespace Sys2Proof.Machine

/-! ### Cue part records on the link (R189) -/

/-- The second byte of a payload, as it was written. -/
theorem u8_second {p rest : List Byte} {b : Byte} {n : Nat} (hn : n < 256) (h : p = b :: byteOf n :: rest) : u8 p 1 = n := by
  rw [h]
  exact (byteOf_toNat n).trans (Nat.mod_eq_of_lt hn)

/-- A word at an offset is read as it was written. -/
theorem word_of_drop {b r : List Byte} {n : Nat} {v : BitVec 32} (h : b.drop n = wordBytes v ++ r) :
    BitVec.ofNat 32 (u32 b n) = v := by
  have hread := u32_drop b n 0
  rw [h, wordBytes, u32_be32, Nat.mod_eq_of_lt v.isLt] at hread
  rw [← Nat.add_zero n, ← hread, BitVec.ofNat_toNat, BitVec.setWidth_eq]

/-- A half word at an offset is read as it was written. -/
theorem halfWord_of_drop {b r : List Byte} {n : Nat} {v : BitVec 16} (h : b.drop n = be16 v.toNat ++ r) :
    BitVec.ofNat 16 (u16 b n) = v := by
  have hread := u16_drop b n 0
  rw [h, u16_be16, Nat.mod_eq_of_lt v.isLt] at hread
  rw [← Nat.add_zero n, ← hread, BitVec.ofNat_toNat, BitVec.setWidth_eq]

/-- A part record is read as it was written. -/
theorem partOf_bytes (p : PartRecord) (r : List Byte) : partOf (p.bytes ++ r) = p := by
  simp only [PartRecord.bytes, List.append_assoc, List.cons_append, List.nil_append]
  unfold partOf
  congr 1
  · exact word_of_drop (n := 3) rfl
  · exact word_of_drop (n := 7) rfl
  · exact word_of_drop (n := 11) rfl
  · exact halfWord_of_drop (n := 15) rfl
  · exact halfWord_of_drop (n := 17) rfl
  · exact halfWord_of_drop (n := 19) rfl
  · exact halfWord_of_drop (n := 21) rfl
  · exact halfWord_of_drop (n := 23) rfl
  · exact word_of_drop (n := 25) rfl
  · exact word_of_drop (n := 29) rfl

theorem PartRecord.bytes_length (p : PartRecord) : p.bytes.length = 34 := rfl

/-- Part records that stand one after another are read as they were written. -/
theorem partsOf_flatMap_bytes (l : List PartRecord) : partsOf l.length (l.flatMap PartRecord.bytes) = l := by
  induction l with
  | nil => rfl
  | cons p l ih =>
    rw [List.flatMap_cons, List.length_cons, partsOf, partOf_bytes, List.drop_left' p.bytes_length, ih]

theorem flatMap_bytes_length (l : List PartRecord) : (l.flatMap PartRecord.bytes).length = 34 * l.length := by
  simp [List.length_flatMap, PartRecord.bytes_length, Nat.mul_comm]

/-! ### The cues and the pool -/

theorem State.setCue_cueOf (s : State) (c d : Fin 96) (k : Cue) :
    (s.setCue c k).cueOf d = if d = c then k else s.cueOf d := by
  simp only [State.cueOf, State.setCue_pbu, Fin.getElem_fin, Vector.getElem_set, Fin.ext_iff, eq_comm]

theorem State.emptyCue_cueOf (s : State) (c d : Fin 96) :
    (s.emptyCue c).cueOf d = if d = c then Cue.blank else s.cueOf d :=
  s.setCue_cueOf c d Cue.blank

/-- An abort empties the cue that the open-build record names, and no other (R99). -/
theorem State.abortBuild_cueOf (s : State) (d : Fin 96) :
    s.abortBuild.cueOf d = if s.pbu.openBuild.any (fun b => b.cue == d) then Cue.blank else s.cueOf d := by
  unfold State.abortBuild
  cases s.pbu.openBuild with
  | none => rfl
  | some b =>
    refine (s.emptyCue_cueOf b.cue d).trans (if_congr ?_ rfl rfl)
    rw [Option.any_some, beq_iff_eq, eq_comm]

/-- The slots of the pool: the free ones and those that hold parts (R98). -/
def State.poolSlots (s : State) : Nat := s.pbu.poolFree + partsHeld s.pbu.cues.toList

/-- One cue agrees with the open-build record (R99): its clause of `State.poolOk`. -/
def Cue.agrees (k : Cue) (c : Fin 96) (build : Option OpenBuild) : Prop :=
  (k.state = .empty → k.parts = []) ∧ (k.state = .ready → k.parts.length = k.declared) ∧
    (k.state = .opened ↔ build = some { cue := c, declared := k.declared, received := k.parts.length })

theorem State.poolOk_iff (s : State) : s.poolOk ↔ s.poolSlots = 1024 ∧ ∀ c, (s.cueOf c).agrees c s.pbu.openBuild := Iff.rfl

/-- In a pool in balance, an OPEN cue is the one that the open-build record names. -/
theorem State.openBuild_of_opened {s : State} (h : s.poolOk) {c : Fin 96} (hopen : (s.cueOf c).state = .opened) :
    s.pbu.openBuild = some { cue := c, declared := (s.cueOf c).declared, received := (s.cueOf c).parts.length } := by
  obtain ⟨-, hcues⟩ := h
  obtain ⟨-, -, hopened⟩ := hcues c
  exact hopened.mp hopen

/-- An EMPTY cue agrees with a record that does not name it. -/
theorem Cue.blank_agrees {c : Fin 96} {build : Option OpenBuild} (h : ∀ b ∈ build, b.cue ≠ c) : Cue.blank.agrees c build :=
  ⟨fun _ => rfl, fun _ => rfl, nofun, fun hb => absurd rfl (h _ hb)⟩

/-- A cue that is not OPEN agrees with every record that does not name it, if it agrees with one. -/
theorem Cue.agrees_of_not_named {k : Cue} {c : Fin 96} {build build' : Option OpenBuild} (h : k.agrees c build)
    (hopen : k.state ≠ .opened) (hb : ∀ b ∈ build', b.cue ≠ c) : k.agrees c build' := by
  obtain ⟨hempty, hready, -⟩ := h
  exact ⟨hempty, hready, fun e => absurd e hopen, fun e => absurd rfl (hb _ e)⟩

/-- One entry of a list of cues is replaced. -/
theorem partsHeld_list_set (l : List Cue) (n : Nat) (h : n < l.length) (k : Cue) :
    partsHeld (l.set n k) + l[n].parts.length = partsHeld l + k.parts.length := by
  have hset (k : Cue) : partsHeld (l.set n k) = partsHeld (l.take n) + k.parts.length + partsHeld (l.drop (n + 1)) := by
    simp [partsHeld, List.map_set, List.sum_set, h, List.map_take, List.map_drop]
  have hself := hset l[n]
  rw [List.set_getElem_self] at hself
  rw [hset k, hself]
  omega

/-- The parts held after one cue of the store is replaced. -/
theorem partsHeld_set (cues : Vector Cue 96) (c : Fin 96) (k : Cue) :
    partsHeld (cues.set c k).toList + cues[c].parts.length = partsHeld cues.toList + k.parts.length := by
  rw [Vector.toList_set]
  exact partsHeld_list_set cues.toList c (by simp) k

theorem State.setCue_poolSlots (s : State) (c : Fin 96) (k : Cue) :
    (s.setCue c k).poolSlots + (s.cueOf c).parts.length = s.poolSlots + k.parts.length := by
  have hset := partsHeld_set s.pbu.cues c k
  simp only [State.poolSlots, State.setCue_pbu, State.cueOf, Fin.getElem_fin] at hset ⊢
  omega

theorem State.emptyCue_poolSlots (s : State) (c : Fin 96) : (s.emptyCue c).poolSlots = s.poolSlots := by
  have hset := partsHeld_set s.pbu.cues c Cue.blank
  simp only [State.poolSlots, State.emptyCue_pbu, State.cueOf, Cue.blank, List.length_nil] at hset ⊢
  omega

theorem State.abortBuild_poolSlots (s : State) : s.abortBuild.poolSlots = s.poolSlots := by
  unfold State.abortBuild
  cases s.pbu.openBuild with
  | none => rfl
  | some b => exact s.emptyCue_poolSlots b.cue

/-! ### CUE-OPEN (R101) -/

/-- The cue store of a CUE-OPEN of `c` after order 1: the build of another cue has been aborted (R101). -/
def State.otherAborted (s : State) (c : Fin 96) : State := if (s.otherBuild c).isSome then s.abortBuild else s

theorem State.otherAborted_cueOf (s : State) {c d : Fin 96} (h : d ≠ c) :
    (s.otherAborted c).cueOf d = if s.pbu.openBuild.any (fun b => b.cue == d) then Cue.blank else s.cueOf d := by
  unfold State.otherAborted State.otherBuild
  cases hb : s.pbu.openBuild with
  | none => rfl
  | some b =>
    by_cases hc : b.cue = c
    · simp [hc, Ne.symm h]
    · simp [hc, State.abortBuild_cueOf, hb]

theorem State.otherAborted_poolSlots (s : State) (c : Fin 96) : (s.otherAborted c).poolSlots = s.poolSlots := by
  unfold State.otherAborted
  split
  · exact s.abortBuild_poolSlots
  · rfl

/-- CUE-OPEN opens its cue, empties the cue whose build it aborts, and keeps the others. -/
theorem State.openCue_cueOf (s : State) (c d : Fin 96) (n : Nat) :
    (s.openCue c n).1.cueOf d = if d = c then { state := .opened, declared := n, parts := [] }
      else if s.pbu.openBuild.any (fun b => b.cue == d) then Cue.blank else s.cueOf d := by
  refine (State.setCue_cueOf ((s.otherAborted c).emptyCue c) c d _).trans ?_
  split
  · rfl
  · next h => rw [State.emptyCue_cueOf, if_neg h, s.otherAborted_cueOf h]

theorem State.openCue_poolSlots (s : State) (c : Fin 96) (n : Nat) : (s.openCue c n).1.poolSlots = s.poolSlots := by
  have hset := ((s.otherAborted c).emptyCue c).setCue_poolSlots c { state := .opened, declared := n, parts := [] }
  rw [State.emptyCue_cueOf, if_pos rfl, State.emptyCue_poolSlots, State.otherAborted_poolSlots] at hset
  exact hset

theorem State.openCue_openBuild (s : State) (c : Fin 96) (n : Nat) :
    (s.openCue c n).1.pbu.openBuild = some { cue := c, declared := n, received := 0 } := rfl

/-- CUE-OPEN touches the cues, the pool and the open-build record alone. -/
theorem State.openCue_eq (s : State) (c : Fin 96) (n : Nat) :
    (s.openCue c n).1 = { s with pbu := { s.pbu with
      cues := (s.openCue c n).1.pbu.cues, poolFree := (s.openCue c n).1.pbu.poolFree
      openBuild := some { cue := c, declared := n, received := 0 } } } := by
  unfold State.openCue State.abortBuild
  dsimp only
  split
  · split <;> rfl
  · rfl

/-- The answer of CUE-OPEN names the cue whose build it aborts, 0xFF where it aborts none. -/
theorem State.openCue_answer (s : State) (c : Fin 96) (n : Nat) :
    (s.openCue c n).2 = .ok ((match s.pbu.openBuild with
      | some b => if b.cue = c then 0xFF else byteOf b.cue.val
      | none => 0xFF) :: be16 (s.openCue c n).1.pbu.poolFree) := by
  refine congrArg (fun b => Answer.ok (b :: be16 (s.openCue c n).1.pbu.poolFree)) ?_
  unfold State.otherBuild
  cases s.pbu.openBuild with
  | none => rfl
  | some b => by_cases hc : b.cue = c <;> simp [hc, optByte]

/-- CUE-OPEN keeps the pool in balance: of the other cues none is left OPEN (R99). -/
theorem State.openCue_poolOk {s : State} (h : s.poolOk) (c : Fin 96) (n : Nat) : (s.openCue c n).1.poolOk := by
  obtain ⟨hslots, hcues⟩ := s.poolOk_iff.mp h
  refine (State.poolOk_iff _).mpr ⟨(s.openCue_poolSlots c n).trans hslots, fun d => ?_⟩
  rw [State.openCue_cueOf, State.openCue_openBuild]
  by_cases hd : d = c
  · subst hd
    rw [if_pos rfl]
    exact ⟨nofun, nofun, fun _ => rfl, fun _ => rfl⟩
  · have hnamed : ∀ b ∈ some (OpenBuild.mk c n 0), b.cue ≠ d := by
      rintro b ⟨⟩
      exact Ne.symm hd
    rw [if_neg hd]
    split
    · exact Cue.blank_agrees hnamed
    · next hany =>
      refine Cue.agrees_of_not_named (hcues d) (fun hopen => hany ?_) hnamed
      rw [State.openBuild_of_opened h hopen]
      simp

/-! ### CUE-PART and CUE-DELETE (R102 to R105) -/

theorem State.appendParts_eq (s : State) (c : Fin 96) (parts : List PartRecord) :
    let held := (s.cueOf c).parts ++ parts
    let state : CueState := if held.length = (s.cueOf c).declared then .ready else .opened
    s.appendParts c parts = ({ s with pbu := { s.pbu with
        cues := s.pbu.cues.set c { state := state, declared := (s.cueOf c).declared, parts := held }
        poolFree := s.pbu.poolFree - parts.length
        openBuild := if state = .ready then none
          else some { cue := c, declared := (s.cueOf c).declared, received := held.length } } },
      .ok ([byteOf held.length, cueStateCode state] ++ be16 (s.pbu.poolFree - parts.length))) := by
  intro held state
  by_cases hdone : held.length = (s.cueOf c).declared <;>
    simp [State.appendParts, State.setCue, held, state, hdone]

theorem State.abortFull_eq {s : State} {b : OpenBuild} (h : s.pbu.openBuild = some b) :
    s.abortFull = ({ s with pbu := { s.pbu with
        cues := s.pbu.cues.set b.cue Cue.blank, poolFree := s.pbu.poolFree + (s.cueOf b.cue).parts.length
        openBuild := none } },
      { status := .full, data := be16 (s.pbu.poolFree + (s.cueOf b.cue).parts.length) }) := by
  unfold State.abortFull State.abortBuild
  rw [h]
  rfl

theorem State.deleteCue_eq (s : State) (c : Fin 96) :
    s.deleteCue c = ({ s with pbu := { s.pbu with
        cues := s.pbu.cues.set c Cue.blank, poolFree := s.pbu.poolFree + (s.cueOf c).parts.length
        openBuild := if (s.cueOf c).state = .opened then none else s.pbu.openBuild } },
      .ok (be16 (s.pbu.poolFree + (s.cueOf c).parts.length))) := by
  unfold State.deleteCue
  dsimp only
  split <;> rfl

theorem State.deleteCue_cueOf (s : State) (c d : Fin 96) :
    (s.deleteCue c).1.cueOf d = if d = c then Cue.blank else s.cueOf d := by
  rw [State.deleteCue_eq]
  exact s.emptyCue_cueOf c d

theorem State.deleteCue_openBuild (s : State) (c : Fin 96) :
    (s.deleteCue c).1.pbu.openBuild = if (s.cueOf c).state = .opened then none else s.pbu.openBuild := by
  rw [State.deleteCue_eq]

/-- The checks of CUE-PART hold of well-formed parts that fit the OPEN cue. -/
theorem cuePartChecks_passed {s : State} {q : Request} {c : Fin 96} {parts : List PartRecord} (hsaving : s.ims.saving = none)
    (hpayload : q.payload = [byteOf c.val, byteOf parts.length] ++ parts.flatMap PartRecord.bytes) (hpos : 1 ≤ parts.length)
    (hle : parts.length ≤ 7) (hopen : (s.cueOf c).state = .opened)
    (hparts : ∀ p ∈ parts, p.selector.isSome ∧ p.aimOk ∧ p.colourOk ∧ p.someAttribute ∧ p.shape.toNat < 2)
    (hfits : (s.cueOf c).parts.length + parts.length ≤ (s.cueOf c).declared) :
    firstFailing (tableChecks (hasCountedLength q 2 1 34) s
      [(decide (u8 q.payload 0 < 96), .badValue), (decide (1 ≤ parts.length ∧ parts.length ≤ 7), .badValue),
       ((s.cueOf c).state == .opened, .notOpen), (parts.all fun p => p.selector.isSome, .badValue),
       (parts.all PartRecord.aimOk, .badValue), (parts.all PartRecord.colourOk, .badValue),
       (parts.all PartRecord.someAttribute, .badValue), (parts.all PartRecord.shapeOk, .badValue),
       (decide ((s.cueOf c).parts.length + parts.length ≤ (s.cueOf c).declared), .badValue)]) = none := by
  have hc := u8_index c (by decide) hpayload
  have hm := u8_second (by omega) hpayload
  have hlength : hasCountedLength q 2 1 34 = true := by
    have hplen : q.payload.length = 2 + 34 * parts.length := by
      rw [hpayload, List.length_append, flatMap_bytes_length]
      rfl
    simp only [hasCountedLength, hm, hplen, Config.maxPayload]
    simp
    omega
  simp only [imp_and, forall_and] at hparts
  obtain ⟨hsel, haim, hcolour, hattr, hshape⟩ := hparts
  have hshapes : parts.all PartRecord.shapeOk = true := List.all_eq_true.mpr fun p hp => decide_eq_true (hshape p hp)
  rw [tableChecks_passed hlength hsaving]
  simp [hc, hpos, hle, hopen, List.all_eq_true.mpr hsel, List.all_eq_true.mpr haim, List.all_eq_true.mpr hcolour,
    List.all_eq_true.mpr hattr, hshapes, hfits]

section
variable {s : State} {q : Request} {c : Fin 96}

theorem execCueOpen_accepted {n : Nat} (hsaving : s.ims.saving = none) (hserving : s.serving 0x30 q)
    (hpayload : q.payload = [byteOf c.val, byteOf n]) (hpos : 1 ≤ n) (hle : n ≤ 64) :
    exec (.cueOpen q) s = .next ((s.openCue c n).1.answered 0x30 q (s.openCue c n).2) := by
  have hc := u8_index c (by decide) hpayload
  have hn := u8_second (by omega) hpayload
  have hlength : hasLength q 2 = true := hasLength_of_eq hpayload
  refine (congrArg _ (State.serve_accepted hserving ?_)).trans ?_
  · rw [tableChecks_passed hlength hsaving]
    simp [hc, hn, hpos, hle]
  · rw [cueField_eq hc, hn]

theorem execCuePart_accepted {parts : List PartRecord} (hsaving : s.ims.saving = none) (hserving : s.serving 0x31 q)
    (hpayload : q.payload = [byteOf c.val, byteOf parts.length] ++ parts.flatMap PartRecord.bytes) (hpos : 1 ≤ parts.length)
    (hle : parts.length ≤ 7) (hopen : (s.cueOf c).state = .opened)
    (hparts : ∀ p ∈ parts, p.selector.isSome ∧ p.aimOk ∧ p.colourOk ∧ p.someAttribute ∧ p.shape.toNat < 2)
    (hfits : (s.cueOf c).parts.length + parts.length ≤ (s.cueOf c).declared) :
    let done := if parts.length ≤ s.pbu.poolFree then s.appendParts c parts else s.abortFull
    exec (.cuePart q) s = .next (done.1.answered 0x31 q done.2) := by
  have hc := u8_index c (by decide) hpayload
  have hm := u8_second (by omega) hpayload
  have hread : partsOf parts.length (q.payload.drop 2) = parts := by
    rw [hpayload]
    exact partsOf_flatMap_bytes parts
  refine (congrArg _ (State.serve_accepted hserving ?_)).trans ?_
  · rw [cueField_eq hc, hm, hread]
    exact cuePartChecks_passed hsaving hpayload hpos hle hopen hparts hfits
  · rw [cueField_eq hc, hm, hread]

theorem execCueDelete_accepted (hsaving : s.ims.saving = none) (hserving : s.serving 0x32 q)
    (hpayload : q.payload = [byteOf c.val]) (hstate : (s.cueOf c).state ≠ .empty) :
    exec (.cueDelete q) s = .next ((s.deleteCue c).1.answered 0x32 q (s.deleteCue c).2) := by
  have hc := u8_index c (by decide) hpayload
  have hlength : hasLength q 1 = true := hasLength_of_eq hpayload
  refine (congrArg _ (State.serve_accepted hserving ?_)).trans ?_
  · rw [tableChecks_passed hlength hsaving]
    simp [hc, cueField_eq hc, bne_iff_ne.mpr hstate]
  · rw [cueField_eq hc]

end

/-- Settles O45: each request passes its checks, and its effect is read off the equations above. -/
theorem cueBuildFollowsRequests : Obligations.CueBuildFollowsRequests := by
  intro s q c hsaving hok
  refine ⟨fun n hserving hpayload hpos hle => ?_,
    fun parts hserving hpayload hpos hle hopen hparts hfits => ⟨fun hfree => ?_, fun hshort => ?_⟩,
    fun hserving hpayload hstate => ?_⟩
  · refine ⟨(s.openCue c n).1, ?_, s.openCue_eq c n, State.openCue_poolOk hok c n, ?_, fun d hd => ?_⟩
    · rw [execCueOpen_accepted hsaving hserving hpayload hpos hle]
      exact congrArg (fun a => Host.Outcome.next ((s.openCue c n).1.answered 0x30 q a)) (s.openCue_answer c n)
    · rw [State.openCue_cueOf, if_pos rfl]
    · rw [State.openCue_cueOf, if_neg hd]
  · rw [execCuePart_accepted hsaving hserving hpayload hpos hle hopen hparts hfits, if_pos hfree, State.appendParts_eq]
  · rw [execCuePart_accepted hsaving hserving hpayload hpos hle hopen hparts hfits, if_neg hshort.not_ge,
      State.abortFull_eq (State.openBuild_of_opened hok hopen)]
  · rw [execCueDelete_accepted hsaving hserving hpayload hstate, State.deleteCue_eq]

/-! ### The balance of the pool (R98, R99) -/

/-- The balance of the pool is about the PBU alone. -/
theorem State.poolOk_congr {s t : State} (h : t.pbu = s.pbu) : t.poolOk ↔ s.poolOk := by
  unfold State.poolOk State.cueOf
  rw [h]

theorem State.poolOk_answered (s : State) (kind : Byte) (q : Request) (a : Answer) : (s.answered kind q a).poolOk ↔ s.poolOk :=
  State.poolOk_congr (s.complete_pbu _ a)

/-- A CUE-DELETE of a cue that is not OPEN keeps the open-build record (R105). Where the record, stale, names that very cue
with no part declared and none received, the emptied cue fits it. -/
theorem State.deleteCue_not_poolOk {s : State} {c : Fin 96} (hstate : (s.cueOf c).state ≠ .opened)
    (hstale : s.pbu.openBuild = some { cue := c, declared := 0, received := 0 }) : ¬ (s.deleteCue c).1.poolOk := by
  intro h
  have hagrees := h.2 c
  rw [State.deleteCue_cueOf, if_pos rfl, State.deleteCue_openBuild, if_neg hstate, hstale] at hagrees
  obtain ⟨-, -, hopened⟩ := hagrees
  cases hopened.mpr rfl

/-- A cue part that sets a level on every fixture. -/
def fullLevel : PartRecord :=
  { selKind := 2, selNumber := 0, attributes := 16, a := 0, b := 0, c := 0, red := 0, green := 0, blue := 0, wmix := 0,
    level := 65535, fade := 0, delay := 0, shape := 0 }

/-- CUE-DELETE of cue 0. -/
def deleteFirst : Request := { broadcast := true, tag := 0, payload := [byteOf 0] }

/-- Cue 0 is READY with one part, and the open-build record names it with no part declared and none received. No cue is OPEN:
the record is stale, and `State.poolOk` lets it pass since it fits no cue. A CUE-DELETE of cue 0 is in progress. -/
def staleBuild : State :=
  { State.reset with
    pbu := { State.reset.pbu with
      cues := State.reset.pbu.cues.set 0 { state := .ready, declared := 1, parts := [fullLevel] }
      poolFree := 1023, openBuild := some { cue := 0, declared := 0, received := 0 } }
    rqd := { State.reset.rqd with inProgress := some { kind := 0x32, request := deleteFirst } }
    pending := [.cueDelete deleteFirst] }

theorem staleBuild_poolOk : staleBuild.poolOk := by
  unfold State.poolOk
  decide +kernel

theorem staleBuild_step :
    let t := (staleBuild.withPending []).deleteCue 0
    step staleBuild = .next (t.1.answered 0x32 deleteFirst t.2) :=
  execCueDelete_accepted (s := staleBuild.withPending []) (c := 0) rfl rfl rfl (by decide)

/-- Refutes O46: in `staleBuild` the open-build record names a READY cue, and the CUE-DELETE of that cue leaves the record
to name an EMPTY one, in all its fields. `step_keeps_buildOk` below is the balance with a record that names the OPEN cue. -/
theorem not_partPoolBalances : ¬ Obligations.PartPoolBalances := by
  intro h
  have hkept := (h staleBuild _ (by decide) staleBuild_poolOk staleBuild_step).1
  exact State.deleteCue_not_poolOk (by decide) rfl ((State.poolOk_answered _ _ _ _).mp hkept)

end Sys2Proof.Machine

/-! ## The pool through every command -/

namespace Sys2Proof.Machine

/-! ### What the balance is about -/

/-- The cues, the free slots and the open-build record: the part of the PBU that the balance of the pool is about. -/
def State.pool (s : State) : Vector Cue 96 × Nat × Option OpenBuild := (s.pbu.cues, s.pbu.poolFree, s.pbu.openBuild)

theorem State.pool_of_pbu {s t : State} (h : t.pbu = s.pbu) : t.pool = s.pool := by
  unfold State.pool
  rw [h]

/-- The balance of the pool together with a record that names the OPEN cue, where it names one (R98, R99). -/
def State.buildOk (s : State) : Prop := s.poolOk ∧ ∀ b ∈ s.pbu.openBuild, (s.cueOf b.cue).state = .opened

theorem State.buildOk_of_pool {s t : State} (h : t.pool = s.pool) (hs : s.buildOk) : t.buildOk := by
  obtain ⟨hcues, hfree, hbuild⟩ : t.pbu.cues = s.pbu.cues ∧ t.pbu.poolFree = s.pbu.poolFree ∧
    t.pbu.openBuild = s.pbu.openBuild := by simpa [State.pool] using h
  unfold State.buildOk State.poolOk State.cueOf at *
  rwa [hcues, hfree, hbuild]

/-! ### Moves of show time, marks and expiries -/

section
variable (s : State)

@[simp] theorem State.reportForward_pool (b : Bool) (t : Nat) : (s.reportForward b t).pool = s.pool := by
  rw [(s.reportForward_spec b t).1]
  rfl

@[simp] theorem State.jumpTo_pool (t : Nat) : (s.jumpTo t).pool = s.pool := by
  have moved : ((s.setShowTime t).discardSlip).pool = s.pool := rfl
  unfold State.jumpTo
  dsimp only
  split
  · exact (State.reportForward_pool _ true t).trans moved
  · rfl

@[simp] theorem State.relocate_pool (t : Nat) : (s.relocate t).pool = s.pool := by
  have moved : ((s.setShowTime t).discardSlip).pool = s.pool := rfl
  unfold State.relocate
  dsimp only
  split
  · exact s.jumpTo_pool t
  · split
    · exact (State.reportForward_pool _ false t).trans moved
    · split <;> rfl

@[simp] theorem State.actOnMark_pool (m : Mark) : (s.actOnMark m).pool = s.pool := by
  have running (r : Bool) : (s.setRunning r).pool = s.pool := State.pool_of_pbu (by simp)
  unfold State.actOnMark
  split
  · exact State.pool_of_pbu (by simp)
  · exact (State.relocate_pool _ _).trans (running true)
  · exact (State.relocate_pool _ _).trans (running false)
  · exact s.relocate_pool m.time

@[simp] theorem State.enterLocked_pool (m : Mark) : (s.enterLocked m).pool = s.pool := by
  unfold State.enterLocked
  dsimp only
  rw [State.actOnMark_pool]
  split
  · exact State.jumpTo_pool _ _
  · rfl

@[simp] theorem State.lockedMark_pool (m r : Mark) (bad : Nat) (c : Option Mark) (x : Option Slip) :
    (s.lockedMark m r bad c x).pool = s.pool := by
  unfold State.lockedMark
  dsimp only
  split
  · exact (State.actOnMark_pool _ m).trans (State.jumpTo_pool _ _)
  · split
    · exact State.actOnMark_pool _ m
    · exact State.pool_of_pbu (by simp)

@[simp] theorem State.takeMark_pool (m : Mark) : (s.takeMark m).pool = s.pool := by
  unfold State.takeMark
  split
  · rfl
  · rfl
  · split
    · exact s.enterLocked_pool m
    · rfl
  · exact s.lockedMark_pool m _ _ _ _

@[simp] theorem State.syncByte_pool (b : Byte) : (s.syncByte b).pool = s.pool := by
  have gap : s.checkMarkGap.pool = s.pool := State.pool_of_pbu (by simp)
  refine Eq.trans ?_ gap
  unfold State.syncByte State.takeSyncByte
  split
  · split <;> rfl
  · split
    · rfl
    · unfold State.completeMark
      dsimp only
      split
      · exact State.takeMark_pool _ _
      · exact State.pool_of_pbu (by simp)

theorem State.expire_pool (t : LocalTime) : (s.expire t).pool = s.pool := by
  unfold State.expire
  dsimp only
  refine (State.pool_of_pbu (State.updateMemberless_pbu _ t)).trans ((State.reportForward_pool _ _ _).trans ?_)
  exact State.pool_of_pbu (by simp)

theorem State.expireWith_pool (t : LocalTime) (adc : Readings) (n : Nat) : (s.expireWith t adc n).pool = s.pool := by
  have started (u : State) (x : Option Sampling) : (u.startPass t x).pool = u.pool := State.pool_of_pbu (u.startPass_pbu t x)
  cases n with
  | zero =>
    rw [State.expireWith, started, State.expire_pool]
    exact State.pool_of_pbu (by simp)
  | succ n =>
    rw [State.expireWith, started, State.expire_pool]
    rfl

end

/-! ### The commands that leave the pool alone -/

/-- RESTART, CLEAR-SHOW and the build requests change the pool, as do the image loads (R96, R98). -/
def movesPool : Instr → Bool
  | .powerOn _ | .resetPin _ | .restart _ | .clearShow _ | .cueOpen _ | .cuePart _ | .cueDelete _ => true
  | _ => false

/-- The next state of an outcome, if it has one, has the pool of `s`. -/
def State.outcomeKeepsPool (s : State) (o : Host.Outcome State Fault Refusal) : Prop := ∀ t, o = .next t → t.pool = s.pool

theorem State.keepsPool_next {s t : State} (h : t.pool = s.pool) : s.outcomeKeepsPool (.next t) := by
  intro u e
  cases e
  exact h

theorem State.keepsPool_next_of_pbu {s t : State} (h : t.pbu = s.pbu) : s.outcomeKeepsPool (.next t) :=
  State.keepsPool_next (State.pool_of_pbu h)

theorem State.serve_pool {kind : Byte} {q : Request} {body : State → State × Answer} (h : ∀ u, (body u).1.pool = u.pool)
    (s : State) : (s.serve kind q body).pool = s.pool := by
  have presented : (s.present { kind := kind, request := q }).pool = s.pool := State.pool_of_pbu (by simp)
  unfold State.serve
  dsimp only
  split
  · exact (State.pool_of_pbu (State.complete_pbu ..)).trans ((h _).trans presented)
  · exact presented

section
variable {kind : Byte} {q : Request} {checks : State → List (Bool × Status)} {effect : State → State × Answer}

theorem State.keepsPool_request (h : ∀ u, (effect u).1.pool = u.pool) (s : State) :
    s.outcomeKeepsPool (.next (s.serve kind q (changeBody checks effect))) := by
  refine State.keepsPool_next (State.serve_pool (fun u => ?_) s)
  cases hc : firstFailing (checks u) with
  | none => rw [changeBody_accepted hc, h u]
  | some st => rw [changeBody_refused hc]

theorem State.keepsPool_request_of_pbu (h : ∀ u, (effect u).1.pbu = u.pbu) (s : State) :
    s.outcomeKeepsPool (.next (s.serve kind q (changeBody checks effect))) :=
  State.keepsPool_request (fun u => State.pool_of_pbu (h u)) s

/-- A query answers and changes nothing. -/
theorem State.keepsPool_read {answer : State → Answer} (s : State) :
    s.outcomeKeepsPool (.next (s.serve kind q (changeBody checks fun u => (u, answer u)))) :=
  State.keepsPool_request_of_pbu (fun _ => rfl) s

end

/-! #### Requests with effects of several cases -/

theorem execNoticePoll_pool (q : Request) (s : State) : s.outcomeKeepsPool (execNoticePoll q s) := by
  refine State.keepsPool_request_of_pbu (fun u => ?_) s
  unfold State.pollNotices
  split <;> rfl

theorem execStats_pool (q : Request) (s : State) : s.outcomeKeepsPool (execStats q s) := by
  refine State.keepsPool_request_of_pbu (fun u => ?_) s
  unfold State.takeStats
  dsimp only
  split <;> rfl

theorem execFixtureSlots_pool (q : Request) (s : State) : s.outcomeKeepsPool (execFixtureSlots q s) := by
  refine State.keepsPool_request_of_pbu (fun u => ?_) s
  unfold State.setFixtureSlots
  dsimp only
  split <;> rfl

theorem execTrackBind_pool (q : Request) (s : State) : s.outcomeKeepsPool (execTrackBind q s) := by
  refine State.keepsPool_request_of_pbu (fun u => ?_) s
  unfold State.bindTrack
  dsimp only
  split <;> simp

theorem execTrackPoints_pool (q : Request) (s : State) : s.outcomeKeepsPool (execTrackPoints q s) := by
  refine State.keepsPool_request_of_pbu (fun u => ?_) s
  unfold State.appendPoints
  dsimp only
  split <;> rfl

theorem execStickCentre_pool (q : Request) (adc : Readings) (s : State) : s.outcomeKeepsPool (execStickCentre q adc s) := by
  refine State.keepsPool_request_of_pbu (fun u => ?_) s
  unfold State.centreStick
  dsimp only
  split <;> simp

theorem execLineSet_pool (q : Request) (s : State) : s.outcomeKeepsPool (execLineSet q s) := by
  refine State.keepsPool_request_of_pbu (fun u => ?_) s
  unfold State.setLine
  dsimp only
  split <;> simp

/-! #### Events -/

theorem execUnknownKind_pool (kind : Byte) (q : Request) (s : State) : s.outcomeKeepsPool (execUnknownKind kind q s) := by
  unfold execUnknownKind
  split
  · exact State.keepsPool_next rfl
  · exact State.keepsPool_next (State.serve_pool (fun _ => rfl) s)

theorem execFrameAbandoned_pool (s : State) : s.outcomeKeepsPool (execFrameAbandoned s) := by
  unfold execFrameAbandoned
  split <;> exact State.keepsPool_next rfl

theorem execReplySent_pool (s : State) : s.outcomeKeepsPool (execReplySent s) := by
  unfold execReplySent
  split <;> exact State.keepsPool_next rfl

theorem execSaveCompletion_pool (matched : Bool) (s : State) : s.outcomeKeepsPool (execSaveCompletion matched s) := by
  unfold execSaveCompletion
  split <;> exact State.keepsPool_next rfl

theorem execMarkAbandoned_pool (s : State) : s.outcomeKeepsPool (execMarkAbandoned s) := by
  unfold execMarkAbandoned
  split <;> exact State.keepsPool_next rfl

theorem execConfirmDeadline_pool (s : State) : s.outcomeKeepsPool (execConfirmDeadline s) := by
  unfold execConfirmDeadline
  split <;> exact State.keepsPool_next rfl

theorem execWatchDeadline_pool (s : State) : s.outcomeKeepsPool (execWatchDeadline s) := by
  unfold execWatchDeadline
  split <;> exact State.keepsPool_next_of_pbu (by simp)

theorem execFrameStart_pool (l : Fin 8) (s : State) : s.outcomeKeepsPool (execFrameStart l s) := by
  unfold execFrameStart
  split <;> exact State.keepsPool_next rfl

theorem execFrameSent_pool (l : Fin 8) (s : State) : s.outcomeKeepsPool (execFrameSent l s) := by
  unfold execFrameSent
  split <;> exact State.keepsPool_next_of_pbu (by simp [State.endFrame])

theorem execFaultInputAsserted_pool (l : Fin 8) (s : State) : s.outcomeKeepsPool (execFaultInputAsserted l s) := by
  unfold execFaultInputAsserted
  dsimp only
  split <;> exact State.keepsPool_next_of_pbu (by simp)

theorem execFixtureEvaluation_pool (s : State) : s.outcomeKeepsPool (execFixtureEvaluation s) := by
  unfold execFixtureEvaluation
  split <;> exact State.keepsPool_next_of_pbu (by simp)

theorem execStepExpiry_pool (adc : Readings) (sampling : Nat) (s : State) :
    s.outcomeKeepsPool (execStepExpiry adc sampling s) := by
  refine State.keepsPool_next ((State.pool_of_pbu (State.completeEmptyPass_pbu _)).trans ?_)
  rw [State.expireWith_pool]
  exact State.pool_of_pbu s.finishPass_pbu

/-! #### Every command -/

theorem exec_pool (c : Instr) (s : State) (hc : movesPool c = false) : s.outcomeKeepsPool (exec c s) := by
  cases c with
  | powerOn straps => cases hc
  | resetPin straps => cases hc
  | restart q => cases hc
  | clearShow q => cases hc
  | cueOpen q => cases hc
  | cuePart q => cases hc
  | cueDelete q => cases hc
  | unitQuery q | profileRead q | fixtureRead q | groupRead q | zoneRead q | fixtureQuery q | cueRead q | clockQuery q
  | timelineRead q | trackQuery q | stickQuery q | lineQuery q | lineImage q => exact State.keepsPool_read s
  | save q | profileLoad q | profileRemove q | zoneSet q | clockSet q | stickSet q | stickZero q | linePin q
  | lineStatic q => exact State.keepsPool_request_of_pbu (fun _ => rfl) s
  | aim q | tint q | level q | park q | stop q | douse q | release q =>
    exact State.keepsPool_request_of_pbu (fun u => u.changeSelected_pbu q _) s
  | timelineAdd q | timelineRemove q => exact State.keepsPool_request (fun _ => rfl) s
  | fixtureDefine q => exact State.keepsPool_request_of_pbu (fun u => by rw [State.defineFixture_eq]) s
  | fixtureRemove q => exact State.keepsPool_request_of_pbu (fun u => by rw [State.removeFixture_eq]) s
  | fixtureSlots q => exact execFixtureSlots_pool q s
  | groupSet q => exact State.keepsPool_request_of_pbu (fun u => by rw [State.setGroup_eq]) s
  | go q => exact State.keepsPool_request_of_pbu (fun u => Firing.walk_pbu _ _ _) s
  | showTime q =>
    exact State.keepsPool_request (fun u => (State.pool_of_pbu (State.setRunning_pbu _ _)).trans (u.jumpTo_pool _)) s
  | noticePoll q => exact execNoticePoll_pool q s
  | stats q => exact execStats_pool q s
  | trackBind q => exact execTrackBind_pool q s
  | trackPoints q => exact execTrackPoints_pool q s
  | trackRelease q => exact State.keepsPool_request_of_pbu (fun u => u.releaseTrack_pbu _) s
  | stickCentre q adc => exact execStickCentre_pool q adc s
  | stickSample q adc => exact State.keepsPool_request_of_pbu (fun u => by simp [State.sampleOnce]) s
  | lineSet q => exact execLineSet_pool q s
  | unknownKind kind q => exact execUnknownKind_pool kind q s
  | frameReceived bytes => exact State.keepsPool_next_of_pbu (foldl_keeps State.pbu _ State.linkByte_pbu bytes s)
  | frameAbandoned => exact execFrameAbandoned_pool s
  | replySent => exact execReplySent_pool s
  | saveCompletion matched => exact execSaveCompletion_pool matched s
  | markReceived bytes => exact State.keepsPool_next (foldl_keeps State.pool _ State.syncByte_pool bytes s)
  | markAbandoned => exact execMarkAbandoned_pool s
  | confirmDeadline => exact execConfirmDeadline_pool s
  | watchDeadline => exact execWatchDeadline_pool s
  | frameStart line => exact execFrameStart_pool line s
  | frameSent line => exact execFrameSent_pool line s
  | faultInputAsserted line => exact execFaultInputAsserted_pool line s
  | faultInputReleased line => exact State.keepsPool_next rfl
  | fixtureEvaluation => exact execFixtureEvaluation_pool s
  | passCompletion => exact State.keepsPool_next_of_pbu s.finishPass_pbu
  | stepExpiry adc sampling => exact execStepExpiry_pool adc sampling s

end Sys2Proof.Machine

/-! ## The balance of the pool with a record of the OPEN cue -/

namespace Sys2Proof.Machine

/-! ### The effects that change the pool (R99, R101 to R105) -/

/-- While one cue is OPEN no other is, since the record names one cue (R99). -/
theorem State.not_opened_of_ne {s : State} (h : s.poolOk) {c d : Fin 96} (hopen : (s.cueOf c).state = .opened) (hd : d ≠ c) :
    (s.cueOf d).state ≠ .opened := by
  intro hopen'
  have hrecord := (State.openBuild_of_opened h hopen').symm.trans (State.openBuild_of_opened h hopen)
  simp only [Option.some.injEq, OpenBuild.mk.injEq] at hrecord
  exact hd hrecord.1

/-- The OPEN cue is replaced, and the record becomes none or names it again. -/
theorem State.poolOk_replaced {s t : State} {c : Fin 96} {k : Cue} (h : s.poolOk) (hopen : (s.cueOf c).state = .opened)
    (hslots : t.poolSlots = s.poolSlots) (hcues : ∀ d, t.cueOf d = if d = c then k else s.cueOf d)
    (hk : k.agrees c t.pbu.openBuild) (hnamed : ∀ b ∈ t.pbu.openBuild, b.cue = c) : t.poolOk := by
  refine (State.poolOk_iff t).mpr ⟨hslots.trans h.1, fun d => ?_⟩
  rw [hcues d]
  split
  · next hd => rwa [hd]
  · next hd =>
    exact Cue.agrees_of_not_named (h.2 d) (State.not_opened_of_ne h hopen hd) fun b hb e => hd (e.symm.trans (hnamed b hb))

theorem State.abortBuild_openBuild (s : State) : s.abortBuild.pbu.openBuild = none := by
  unfold State.abortBuild
  cases hb : s.pbu.openBuild with
  | none => exact hb
  | some b => rfl

theorem State.abortBuild_buildOk {s : State} (h : s.poolOk) : s.abortBuild.buildOk := by
  have hnone := s.abortBuild_openBuild
  refine ⟨(State.poolOk_iff _).mpr ⟨s.abortBuild_poolSlots.trans h.1, fun d => ?_⟩, by simp [hnone]⟩
  rw [s.abortBuild_cueOf d, hnone]
  split
  · exact Cue.blank_agrees (by simp)
  · next hany =>
    refine Cue.agrees_of_not_named (h.2 d) (fun hopen => hany ?_) (by simp)
    rw [State.openBuild_of_opened h hopen]
    simp

theorem State.openCue_buildOk {s : State} (h : s.poolOk) (c : Fin 96) (n : Nat) : (s.openCue c n).1.buildOk := by
  refine ⟨State.openCue_poolOk h c n, ?_⟩
  rintro b ⟨⟩
  rw [State.openCue_cueOf, if_pos rfl]

/-- An OPEN cue with parts appended: READY when it holds its declared count (R103). -/
def Cue.joined (k : Cue) (parts : List PartRecord) : Cue :=
  { state := if (k.parts ++ parts).length = k.declared then .ready else .opened, declared := k.declared
    parts := k.parts ++ parts }

theorem State.appendParts_cueOf (s : State) (c d : Fin 96) (parts : List PartRecord) :
    (s.appendParts c parts).1.cueOf d = if d = c then (s.cueOf c).joined parts else s.cueOf d := by
  rw [State.appendParts_eq]
  exact s.setCue_cueOf c d _

theorem State.appendParts_openBuild (s : State) (c : Fin 96) (parts : List PartRecord) :
    (s.appendParts c parts).1.pbu.openBuild = if ((s.cueOf c).joined parts).state = .ready then none
      else some { cue := c, declared := (s.cueOf c).declared, received := ((s.cueOf c).parts ++ parts).length } := by
  rw [State.appendParts_eq]
  rfl

theorem State.appendParts_poolSlots {s : State} {parts : List PartRecord} (hfree : parts.length ≤ s.pbu.poolFree)
    (c : Fin 96) : (s.appendParts c parts).1.poolSlots = s.poolSlots := by
  have hset := partsHeld_set s.pbu.cues c ((s.cueOf c).joined parts)
  rw [State.appendParts_eq]
  simp only [State.poolSlots, State.cueOf, Cue.joined, Fin.getElem_fin, List.length_append] at hset ⊢
  omega

/-- A CUE-PART with room in the pool appends to the OPEN cue and closes the build with the last part (R103). -/
theorem State.appendParts_buildOk {s : State} (h : s.poolOk) {c : Fin 96} {parts : List PartRecord}
    (hopen : (s.cueOf c).state = .opened) (hfree : parts.length ≤ s.pbu.poolFree) : (s.appendParts c parts).1.buildOk := by
  have hbuild := s.appendParts_openBuild c parts
  have hcue := s.appendParts_cueOf c c parts
  rw [if_pos rfl] at hcue
  have replaced := State.poolOk_replaced h hopen (State.appendParts_poolSlots hfree c) (s.appendParts_cueOf c · parts)
  by_cases hdone : ((s.cueOf c).parts ++ parts).length = (s.cueOf c).declared
  · have hstate : ((s.cueOf c).joined parts).state = .ready := if_pos hdone
    rw [if_pos hstate] at hbuild
    refine ⟨replaced ?_ (by simp [hbuild]), by simp [hbuild]⟩
    rw [Cue.agrees, hstate, hbuild]
    exact ⟨nofun, fun _ => hdone, nofun, nofun⟩
  · have hstate : ((s.cueOf c).joined parts).state = .opened := if_neg hdone
    rw [hstate, if_neg nofun] at hbuild
    refine ⟨replaced ?_ (by simp [hbuild]), by simp [hbuild, hcue, hstate]⟩
    rw [Cue.agrees, hstate, hbuild]
    exact ⟨nofun, nofun, fun _ => rfl, fun _ => rfl⟩

/-- CUE-DELETE closes the build of the OPEN cue, and of no other (R105). -/
theorem State.deleteCue_buildOk {s : State} (h : s.buildOk) (c : Fin 96) : (s.deleteCue c).1.buildOk := by
  obtain ⟨hok, hrecord⟩ := h
  have hslots : (s.deleteCue c).1.poolSlots = s.poolSlots := by
    rw [State.deleteCue_eq]
    exact s.emptyCue_poolSlots c
  have hbuild := s.deleteCue_openBuild c
  by_cases hopen : (s.cueOf c).state = .opened
  · rw [if_pos hopen] at hbuild
    refine ⟨State.poolOk_replaced hok hopen hslots (s.deleteCue_cueOf c) ?_ (by simp [hbuild]), by simp [hbuild]⟩
    exact Cue.blank_agrees (by simp [hbuild])
  · rw [if_neg hopen] at hbuild
    have hne : ∀ b ∈ s.pbu.openBuild, b.cue ≠ c := fun b hb e => hopen (e ▸ hrecord b hb)
    refine ⟨(State.poolOk_iff _).mpr ⟨hslots.trans hok.1, fun d => ?_⟩, fun b hb => ?_⟩
    · rw [State.deleteCue_cueOf, hbuild]
      split
      · next hd => exact hd ▸ Cue.blank_agrees hne
      · exact hok.2 d
    · rw [hbuild] at hb
      rw [State.deleteCue_cueOf, if_neg (hne b hb)]
      exact hrecord b hb

/-- With every cue EMPTY, every slot free and no build the pool is in balance. -/
theorem State.buildOk_of_empty {s : State} (h : s.pool = (Vector.replicate 96 Cue.blank, 1024, none)) : s.buildOk := by
  obtain ⟨hcues, hfree, hbuild⟩ : s.pbu.cues = Vector.replicate 96 Cue.blank ∧ s.pbu.poolFree = 1024 ∧
    s.pbu.openBuild = none := by simpa [State.pool] using h
  have hcue (c : Fin 96) : s.cueOf c = Cue.blank := by simp [State.cueOf, hcues]
  refine ⟨(State.poolOk_iff s).mpr ⟨?_, fun c => ?_⟩, by simp [hbuild]⟩
  · rw [State.poolSlots, hcues, hfree]
    simp [partsHeld, Cue.blank]
  · rw [hcue]
    exact Cue.blank_agrees (by simp [hbuild])

theorem reset_buildOk : State.reset.buildOk := State.buildOk_of_empty rfl

/-! ### The commands that change the pool -/

/-- The next state of an outcome, if it has one, keeps the balance and the record of `s`. -/
def State.outcomeKeepsBuild (s : State) (o : Host.Outcome State Fault Refusal) : Prop :=
  ∀ t, o = .next t → s.buildOk → t.buildOk

theorem State.keepsBuild_request {kind : Byte} {q : Request} {checks : State → List (Bool × Status)}
    {effect : State → State × Answer} (h : ∀ u, firstFailing (checks u) = none → u.buildOk → (effect u).1.buildOk)
    (s : State) : s.outcomeKeepsBuild (.next (s.serve kind q (changeBody checks effect))) := by
  rintro t ⟨⟩ hs
  have presented : (s.present { kind := kind, request := q }).buildOk :=
    State.buildOk_of_pool (State.pool_of_pbu (by simp)) hs
  unfold State.serve
  dsimp only
  split
  · refine State.buildOk_of_pool (State.pool_of_pbu (State.complete_pbu ..)) ?_
    cases hc : firstFailing (checks (s.present { kind := kind, request := q })) with
    | none =>
      rw [changeBody_accepted hc]
      exact h _ hc presented
    | some st => rwa [changeBody_refused hc]
  · exact presented

theorem execCueOpen_buildOk (q : Request) (s : State) : s.outcomeKeepsBuild (execCueOpen q s) :=
  State.keepsBuild_request (fun _ _ h => State.openCue_buildOk h.1 _ _) s

theorem partsOf_length (n : Nat) (b : List Byte) : (partsOf n b).length = n := by
  induction n generalizing b with
  | zero => rfl
  | succ n ih => rw [partsOf, List.length_cons, ih]

theorem execCuePart_buildOk (q : Request) (s : State) : s.outcomeKeepsBuild (execCuePart q s) := by
  refine State.keepsBuild_request (fun u hc h => ?_) s
  have hopen : (u.cueOf (cueField q)).state = .opened := by
    rw [firstFailing_eq_none_iff] at hc
    simp only [tableChecks, List.forall_mem_cons, beq_iff_eq] at hc
    obtain ⟨-, -, -, -, hopen, -⟩ := hc
    exact hopen
  split
  · next hfree => exact State.appendParts_buildOk h.1 hopen (by rwa [partsOf_length])
  · exact State.abortBuild_buildOk h.1

theorem execCueDelete_buildOk (q : Request) (s : State) : s.outcomeKeepsBuild (execCueDelete q s) :=
  State.keepsBuild_request (fun _ _ h => State.deleteCue_buildOk h _) s

theorem execClearShow_buildOk (q : Request) (s : State) : s.outcomeKeepsBuild (execClearShow q s) :=
  State.keepsBuild_request (fun _ _ _ => State.buildOk_of_empty (by simp [State.pool, State.clearShow, State.emptyShow])) s

theorem State.restart_buildOk {s : State} (h : s.poolOk) : s.restart.buildOk := by
  have hpool : s.restart.pool = s.emptyLanes.emptyNotices.abortBuild.pool := by simp [State.pool, State.restart]
  exact State.buildOk_of_pool hpool (State.abortBuild_buildOk ((State.poolOk_congr (by simp)).mpr h))

theorem execRestart_buildOk (q : Request) (s : State) : s.outcomeKeepsBuild (execRestart q s) := by
  rintro t ⟨⟩ hs
  have presented : (s.present { kind := 0x05, request := q }).buildOk := State.buildOk_of_pool (State.pool_of_pbu (by simp)) hs
  unfold State.serveRestart
  dsimp only
  split
  · split
    · exact State.buildOk_of_pool (State.pool_of_pbu (by simp)) presented
    · refine State.restart_buildOk ((State.poolOk_congr ?_).mpr presented.1)
      split <;> simp
  · exact presented

theorem exec_buildOk (c : Instr) (s : State) (hl : c.loadsImage = false) : s.outcomeKeepsBuild (exec c s) := by
  by_cases hc : movesPool c = false
  · exact fun t e hs => State.buildOk_of_pool (exec_pool c s hc t e) hs
  · cases c with
    | powerOn straps => cases hl
    | resetPin straps => cases hl
    | restart q => exact execRestart_buildOk q s
    | clearShow q => exact execClearShow_buildOk q s
    | cueOpen q => exact execCueOpen_buildOk q s
    | cuePart q => exact execCuePart_buildOk q s
    | cueDelete q => exact execCueDelete_buildOk q s
    | _ => exact absurd rfl hc

/-- Where the open-build record names an OPEN cue or none, which `staleBuild` denies, every step but an image load keeps the
balance of the pool (R98, R99). -/
theorem step_keeps_buildOk {s t : State} (hload : ∀ c ∈ s.pending, c.loadsImage = false) (hs : s.buildOk)
    (hstep : step s = .next t) : t.buildOk := by
  unfold step at hstep
  split at hstep
  · next c rest hq =>
    rw [hq, List.forall_mem_cons] at hload
    exact exec_buildOk c (s.withPending rest) hload.1 t hstep hs
  · unfold State.idle at hstep
    dsimp only at hstep
    split at hstep
    · exact exec_buildOk _ s (s.ownEvents_loadsImage _ s.nextEvent_mem) t hstep hs
    · cases hstep
      exact hs

end Sys2Proof.Machine

/-! ## The timeline -/

namespace Sys2Proof.Machine

/-! ### Entries in order of time (R136) -/

/-- The entries stand in order of time. -/
def timeSorted (l : List TimelineEntry) : Prop := l.Pairwise fun a b => a.time ≤ b.time

theorem State.timelineOk_iff (s : State) :
    s.timelineOk ↔ s.scu.showTime ≤ 86399999 ∧ timeSorted s.pbu.timeline ∧
      s.pbu.cursor = cursorAt s.pbu.timeline s.scu.showTime := by
  rw [cursorAt_eq]
  rfl

section
variable {l : List TimelineEntry}

/-- The entries before the cursor are those reached. -/
theorem take_cursorAt (h : timeSorted l) (t : Nat) :
    l.take (cursorAt l t) = l.filter fun e => decide (e.time ≤ t) := by
  induction l with
  | nil => rfl
  | cons a l ih =>
    obtain ⟨hfirst, hrest⟩ := List.pairwise_cons.mp h
    by_cases ha : a.time ≤ t
    · have hn : cursorAt (a :: l) t = cursorAt l t + 1 := by simp [cursorAt, ha]
      simp [hn, ha, ih hrest]
    · have late : ∀ x ∈ a :: l, ¬ x.time ≤ t := by
        intro x hx
        rcases List.mem_cons.mp hx with rfl | hx
        · exact ha
        · have := hfirst x hx
          omega
      have hnone : (a :: l).filter (fun e => decide (e.time ≤ t)) = [] := List.filter_eq_nil_iff.mpr (by simpa using late)
      rw [cursorAt_eq, hnone]
      rfl

theorem time_le_of_mem_take (h : timeSorted l) {t : Nat} {x : TimelineEntry} (hx : x ∈ l.take (cursorAt l t)) :
    x.time ≤ t := by
  rw [take_cursorAt h, List.mem_filter] at hx
  exact of_decide_eq_true hx.2

theorem cursorAt_append (k m : List TimelineEntry) (t : Nat) : cursorAt (k ++ m) t = cursorAt k t + cursorAt m t :=
  List.countP_append

theorem cursorAt_take_add_drop (l : List TimelineEntry) (n t : Nat) :
    cursorAt (l.take n) t + cursorAt (l.drop n) t = cursorAt l t := by
  rw [← cursorAt_append, List.take_append_drop]

/-- The entries behind the cursor are later: those reached are all before it. -/
theorem lt_time_of_mem_drop (h : timeSorted l) {t : Nat} {x : TimelineEntry} (hx : x ∈ l.drop (cursorAt l t)) :
    t < x.time := by
  have hcount := cursorAt_take_add_drop l (cursorAt l t) t
  have hbefore : cursorAt (l.take (cursorAt l t)) t = cursorAt l t := by
    rw [take_cursorAt h, cursorAt_eq, cursorAt_eq, List.filter_filter]
    simp
  have hnone : cursorAt (l.drop (cursorAt l t)) t = 0 := by omega
  have := List.countP_eq_zero.mp hnone x hx
  simpa using this

/-! ### A new entry (R139) -/

/-- The timeline with entry `e` behind the entries of its time and earlier. -/
def withEntry (l : List TimelineEntry) (e : TimelineEntry) : List TimelineEntry :=
  l.take (cursorAt l e.time) ++ e :: l.drop (cursorAt l e.time)

theorem withEntry_length (e : TimelineEntry) : (withEntry l e).length = l.length + 1 := by
  have hle : cursorAt l e.time ≤ l.length := List.countP_le_length
  simp only [withEntry, List.length_append, List.length_take, List.length_cons, List.length_drop]
  omega

theorem withEntry_sorted (h : timeSorted l) (e : TimelineEntry) : timeSorted (withEntry l e) := by
  have hsplit : timeSorted (l.take (cursorAt l e.time) ++ l.drop (cursorAt l e.time)) := by rwa [List.take_append_drop]
  obtain ⟨htake, hdrop, hcross⟩ := List.pairwise_append.mp hsplit
  refine List.pairwise_append.mpr ⟨htake, List.pairwise_cons.mpr ⟨fun x hx => ?_, hdrop⟩, fun x hx y hy => ?_⟩
  · exact Nat.le_of_lt (lt_time_of_mem_drop h hx)
  · rcases List.mem_cons.mp hy with rfl | hy
    · exact time_le_of_mem_take h hx
    · exact hcross x hx y hy

theorem cursorAt_withEntry (e : TimelineEntry) (t : Nat) :
    cursorAt (withEntry l e) t = if e.time ≤ t then cursorAt l t + 1 else cursorAt l t := by
  have hcons : cursorAt (e :: l.drop (cursorAt l e.time)) t =
      cursorAt (l.drop (cursorAt l e.time)) t + if e.time ≤ t then 1 else 0 := by
    simp [cursorAt, List.countP_cons]
  rw [withEntry, cursorAt_append, hcons, ← cursorAt_take_add_drop l (cursorAt l e.time) t]
  split <;> omega

/-! ### An entry taken out (R140) -/

/-- The first entry equal to `e` stands before the cursor exactly when show time has reached it. -/
theorem idxOf_lt_cursorAt_iff (h : timeSorted l) {e : TimelineEntry} (he : e ∈ l) (t : Nat) :
    l.idxOf e < cursorAt l t ↔ e.time ≤ t := by
  have hidx : l.idxOf e < l.length := List.idxOf_lt_length_of_mem he
  constructor
  · intro hlt
    refine time_le_of_mem_take h (List.mem_take_iff_getElem.mpr ⟨l.idxOf e, by omega, ?_⟩)
    exact List.getElem_idxOf hidx
  · intro hle
    by_contra hge
    have hmem : e ∈ l.drop (cursorAt l t) := by
      refine List.mem_drop_iff_getElem.mpr ⟨l.idxOf e - cursorAt l t, by omega, ?_⟩
      simp only [Nat.add_sub_cancel' (Nat.le_of_not_lt hge)]
      exact List.getElem_idxOf hidx
    have := lt_time_of_mem_drop h hmem
    omega

theorem cursorAt_erase {e : TimelineEntry} (he : e ∈ l) (t : Nat) :
    cursorAt (l.erase e) t = if e.time ≤ t then cursorAt l t - 1 else cursorAt l t := by
  rw [cursorAt, List.countP_erase]
  by_cases ht : e.time ≤ t <;> simp [he, ht, cursorAt]

end

/-! ### TIMELINE-ADD and TIMELINE-REMOVE -/

theorem State.addEntry_eq (s : State) (e : TimelineEntry) :
    (s.addEntry e).1 = { s with pbu := { s.pbu with
      timeline := withEntry s.pbu.timeline e
      cursor := if e.time ≤ s.scu.showTime then s.pbu.cursor + 1 else s.pbu.cursor } } := rfl

/-- TIMELINE-ADD answers the position of its entry and the new length. -/
theorem State.addEntry_answer (s : State) (e : TimelineEntry) :
    (s.addEntry e).2 = .ok (be16 (s.pbu.timeline.filter fun x => decide (x.time ≤ e.time)).length ++
      be16 (s.pbu.timeline.length + 1)) := by
  rw [← withEntry_length e, ← cursorAt_eq]
  rfl

theorem State.addEntry_timelineOk {s : State} (h : s.timelineOk) (e : TimelineEntry) : (s.addEntry e).1.timelineOk := by
  obtain ⟨hday, hsorted, hcursor⟩ := s.timelineOk_iff.mp h
  rw [State.addEntry_eq]
  refine (State.timelineOk_iff _).mpr ⟨hday, withEntry_sorted hsorted e, ?_⟩
  dsimp only
  rw [cursorAt_withEntry, hcursor]

theorem State.removeEntry_eq (s : State) (e : TimelineEntry) :
    (s.removeEntry e).1 = { s with pbu := { s.pbu with
      timeline := s.pbu.timeline.erase e
      cursor := if s.pbu.timeline.idxOf e < s.pbu.cursor then s.pbu.cursor - 1 else s.pbu.cursor } } := by
  rw [List.erase_eq_eraseIdx_of_idxOf rfl]
  rfl

/-- TIMELINE-REMOVE answers the position its entry had and the new length. -/
theorem State.removeEntry_answer {s : State} {e : TimelineEntry} (he : e ∈ s.pbu.timeline) :
    (s.removeEntry e).2 = .ok (be16 (s.pbu.timeline.idxOf e) ++ be16 (s.pbu.timeline.length - 1)) := by
  rw [← List.length_erase_of_mem he, List.erase_eq_eraseIdx_of_idxOf rfl]
  rfl

theorem State.removeEntry_timelineOk {s : State} (h : s.timelineOk) {e : TimelineEntry} (he : e ∈ s.pbu.timeline) :
    (s.removeEntry e).1.timelineOk := by
  obtain ⟨hday, hsorted, hcursor⟩ := s.timelineOk_iff.mp h
  rw [State.removeEntry_eq]
  refine (State.timelineOk_iff _).mpr ⟨hday, List.Pairwise.sublist List.erase_sublist hsorted, ?_⟩
  dsimp only
  rw [cursorAt_erase he, hcursor, if_congr (idxOf_lt_cursorAt_iff hsorted he _) rfl rfl]

section
variable {q : Request} {e : TimelineEntry}

/-- A payload written from an entry is read as that entry. -/
theorem entryField_eq (he : e.time ≤ 86399999) (hp : q.payload = be32 e.time ++ [byteOf e.cue.val]) : entryField q = e := by
  have htime : u32 q.payload 0 = e.time := by
    rw [hp, u32_be32]
    omega
  have hcue : u8 q.payload 4 = e.cue.val := by
    rw [hp]
    exact (byteOf_toNat e.cue.val).trans (by omega)
  exact congrArg₂ TimelineEntry.mk htime (Fin.ext (by simp [hcue]))

/-- The checks of both requests come to those of their own for an entry that fits. -/
theorem timelineChecks_passed {s : State} (hsaving : s.ims.saving = none) (he : e.time ≤ 86399999)
    (hp : q.payload = be32 e.time ++ [byteOf e.cue.val]) (own : List (Bool × Status)) :
    firstFailing (timelineChecks q s own) = firstFailing own := by
  have hentry := entryField_eq he hp
  have htime : u32 q.payload 0 ≤ 86399999 := by
    rw [← hentry] at he
    exact he
  have hcue : u8 q.payload 4 < 96 := by
    rw [hp]
    exact (byteOf_toNat e.cue.val).trans_lt (by omega)
  have hlength : hasLength q 5 = true := hasLength_of_eq hp
  rw [timelineChecks, tableChecks_passed hlength hsaving]
  simp [htime, hcue]

end

/-- Settles O48: the two effects, and the check of each that refuses. -/
theorem timelineRequests : Obligations.TimelineRequests := by
  intro s q e h hsaving he hp
  have passed := timelineChecks_passed (s := s) hsaving he hp
  obtain rfl := entryField_eq he hp
  refine ⟨fun hserving hroom => ⟨(s.addEntry (entryField q)).1, ?_, ?_, State.addEntry_timelineOk h _⟩,
    fun hserving hfull => ?_, fun hserving hmem => ⟨(s.removeEntry (entryField q)).1, ?_, ?_, State.removeEntry_timelineOk h hmem⟩,
    fun hserving hmem => ?_⟩
  · rw [← State.addEntry_answer]
    exact congrArg _ (State.serve_accepted hserving (by rw [passed]; simp [hroom]))
  · simp only [State.addEntry_eq, withEntry, cursorAt_eq]
  · exact congrArg _ (State.serve_refused hserving (by rw [passed]; simp [Nat.not_lt.mpr hfull]))
  · rw [← State.removeEntry_answer hmem]
    exact congrArg _ (State.serve_accepted hserving (by rw [passed]; simp [hmem]))
  · rw [State.removeEntry_eq]
  · exact congrArg _ (State.serve_refused hserving (by rw [passed]; simp [hmem]))

end Sys2Proof.Machine

/-! ## Show time, the lock and the timeline through every command -/

namespace Sys2Proof.Machine

/-! ### Moves of show time and the clock block (R119, R120) -/

section
variable (s : State) (t : Nat)

/-- A jump sets show time and discards a slip, and leaves the rest of the SCU alone. -/
@[simp] theorem State.jumpTo_scu : (s.jumpTo t).scu = { s.scu with showTime := t, lock := s.scu.lock.withSlip none } := by
  unfold State.jumpTo
  dsimp only
  split <;> simp

/-- A relocation does so too, by jump processing or without. -/
@[simp] theorem State.relocate_scu :
    (s.relocate t).scu = { s.scu with showTime := t, lock := s.scu.lock.withSlip none } := by
  unfold State.relocate
  dsimp only
  repeat' split
  all_goals simp

end

section
variable (l : Lock) (x : Option Slip) (c : Option Mark)

@[simp] theorem Lock.withSlip_badCount : (l.withSlip x).badCount = l.badCount := by cases l <;> rfl

@[simp] theorem Lock.withCandidate_badCount : (l.withCandidate c).badCount = l.badCount := by cases l <;> rfl

end

/-! ### The records the invariants are about -/

/-- Show time, the records of the lock machine, the mark receiver, the timeline and the cursor. -/
def State.clockRecords (s : State) : Nat × Lock × MarkReceiver × List TimelineEntry × Nat :=
  (s.scu.showTime, s.scu.lock, s.scu.receiver, s.pbu.timeline, s.pbu.cursor)

theorem State.clockRecords_of_blocks {s t : State} (hscu : t.scu = s.scu) (hpbu : t.pbu = s.pbu) :
    t.clockRecords = s.clockRecords := by
  rw [State.clockRecords, hscu, hpbu]
  rfl

/-- A property of the clock records that the operations of section 7 keep, each where the rules use it. -/
structure ClockInvariant (P : State → Prop) : Prop where
  congr : ∀ {s t : State}, t.clockRecords = s.clockRecords → P s → P t
  /-- Another lock record counts no more bad marks, or fewer than 3. -/
  setLock : ∀ {s : State} {l : Lock}, l.badCount ≤ s.scu.lock.badCount ∨ l.badCount < 3 → P s → P (s.setLock l)
  /-- A mark being collected has fewer than six body bytes. -/
  setReceiver : ∀ {s : State} {r : MarkReceiver}, (∀ body last, r = .collecting body last → body.length < 6) → P s →
    P (s.setMarkReceiver r)
  jumpTo : ∀ {s : State} {t : Nat}, t ≤ 86399999 → P s → P (s.jumpTo t)
  relocate : ∀ {s : State} {t : Nat}, t ≤ 86399999 → P s → P (s.relocate t)
  /-- Show time that lies within the day goes on within it, and the entries reached are handed on. -/
  forward : ∀ {s : State} {t : Nat} {b : Bool}, (s.scu.showTime ≤ 86399999 → s.scu.showTime ≤ t ∧ t ≤ 86399999) → P s →
    P ((s.setShowTime t).reportForward b t)
  addEntry : ∀ {s : State} {e : TimelineEntry}, P s → P (s.addEntry e).1
  removeEntry : ∀ {s : State} {e : TimelineEntry}, e ∈ s.pbu.timeline → P s → P (s.removeEntry e).1
  restart : ∀ {s : State}, P s → P s.restart
  clearShow : ∀ {s : State}, P s → P s.clearShow

/-! ### Marks and expiries -/

namespace ClockInvariant

variable {P : State → Prop} (hP : ClockInvariant P) {s : State}
include hP

theorem of_blocks {t : State} (hscu : t.scu = s.scu) (hpbu : t.pbu = s.pbu) (h : P s) : P t :=
  hP.congr (State.clockRecords_of_blocks hscu hpbu) h

theorem raise (n : Notice) (h : P s) : P (s.raise n) := hP.of_blocks (s := s) rfl rfl h

theorem count (f : Stats → Stats) (h : P s) : P (s.count f) := hP.of_blocks (s := s) rfl rfl h

theorem discardSlip (h : P s) : P s.discardSlip := hP.setLock (.inl (by simp)) h

theorem enterLock {l : Lock} (hl : l.badCount < 3) (h : P s) : P (s.enterLock l) :=
  hP.raise _ (hP.setLock (.inr hl) h)

theorem setRunning (r : Bool) (h : P s) : P (s.setRunning r) := by
  unfold State.setRunning
  split
  · exact h
  · exact hP.congr (s := s) rfl h

theorem slipDecision (m : Mark) (e : Int) (h : P s) : P (s.slipDecision m e) := by
  unfold State.slipDecision
  dsimp only
  repeat' split
  all_goals exact hP.setLock (.inl (by simp)) h

theorem actOnMark {m : Mark} (hm : m.time ≤ 86399999) (h : P s) : P (s.actOnMark m) := by
  unfold State.actOnMark
  split
  · exact hP.slipDecision m _ h
  · exact hP.relocate hm (hP.setRunning true h)
  · exact hP.discardSlip (hP.relocate hm (hP.setRunning false h))
  · exact hP.relocate hm h

theorem enterLocked {m : Mark} (hm : m.time ≤ 86399999) (h : P s) : P (s.enterLocked m) := by
  have entered : P (s.enterLock (.locked m 0 (s.deadlineAfter m.arrival) none none)) :=
    hP.enterLock (Nat.zero_lt_succ 2) h
  unfold State.enterLocked
  refine hP.actOnMark hm ?_
  split
  · exact hP.jumpTo hm entered
  · exact entered

theorem countBad (r : Mark) (bad : Nat) (w : LocalTime) (c : Option Mark) (x : Option Slip) (h : P s) :
    P (s.countBad r bad w c x) := by
  unfold State.countBad
  split
  · exact hP.enterLock (Nat.zero_lt_succ 2) h
  · next hbad => exact hP.setLock (.inr (Nat.lt_of_not_le hbad)) h

theorem lockedMark {m : Mark} (hm : m.time ≤ 86399999) (r : Mark) (bad : Nat) (c : Option Mark) (x : Option Slip)
    (h : P s) : P (s.lockedMark m r bad c x) := by
  have locked : P (s.setLock (.locked m 0 (s.deadlineAfter m.arrival) none x)) := hP.setLock (.inr (Nat.zero_lt_succ 2)) h
  unfold State.lockedMark
  dsimp only
  split
  · exact hP.actOnMark hm (hP.jumpTo hm locked)
  · split
    · exact hP.actOnMark hm locked
    · exact hP.countBad _ _ _ _ _ h

theorem takeMark {m : Mark} (hm : m.time ≤ 86399999) (h : P s) : P (s.takeMark m) := by
  unfold State.takeMark
  split
  · exact hP.enterLock (Nat.zero_lt_succ 2) h
  · exact hP.enterLock (Nat.zero_lt_succ 2) h
  · split
    · exact hP.enterLocked hm h
    · exact hP.setLock (.inr (Nat.zero_lt_succ 2)) h
  · exact hP.lockedMark hm _ _ _ _ h

theorem takeFailedMark (h : P s) : P s.takeFailedMark := by
  unfold State.takeFailedMark
  split
  · exact hP.countBad _ _ _ _ _ h
  all_goals exact h

theorem completeMark (body : List Byte) (h : P s) : P (s.completeMark body) := by
  unfold State.completeMark
  dsimp only
  split
  · next hvalid => exact hP.takeMark hvalid.2 (hP.count _ h)
  · exact hP.takeFailedMark (hP.count _ h)

theorem abandonMark (h : P s) : P s.abandonMark := hP.count _ (hP.setReceiver (r := .hunting) nofun h)

theorem checkMarkGap (h : P s) : P s.checkMarkGap := by
  unfold State.checkMarkGap
  split
  · exact h
  · split
    · exact hP.abandonMark h
    · exact h

theorem takeSyncByte (b : Byte) (h : P s) : P (s.takeSyncByte b) := by
  unfold State.takeSyncByte
  split
  · split
    · exact hP.setReceiver (by rintro body last ⟨⟩; exact Nat.zero_lt_succ 5) h
    · exact h
  · split
    · next hroom =>
      refine hP.setReceiver ?_ h
      rintro body last ⟨⟩
      rw [List.length_append, List.length_singleton]
      omega
    · exact hP.completeMark _ (hP.setReceiver nofun h)

theorem syncByte (b : Byte) (h : P s) : P (s.syncByte b) := hP.takeSyncByte b (hP.checkMarkGap h)

theorem syncBytes (bytes : List Byte) (h : P s) : P (bytes.foldl State.syncByte s) := by
  induction bytes generalizing s with
  | nil => exact h
  | cons b bytes ih => exact ih (hP.syncByte b h)

/-- The advance of show time at an expiry and the report of it (R117, R132, R138). -/
theorem advanced (step : Nat) (h : P s) :
    P ((s.advanceShow step).reportForward false (s.advanceShow step).scu.showTime) := by
  have onward (u : State) (n : Nat) : u.scu.showTime ≤ 86399999 →
      u.scu.showTime ≤ advancedTime u.scu.showTime n ∧ advancedTime u.scu.showTime n ≤ 86399999 := by
    intro hday
    simp only [advancedTime, Config.dayEnd]
    omega
  have paused := hP.discardSlip h
  unfold State.advanceShow
  split
  · split
    · exact hP.forward (onward s step) h
    · next x _ =>
      dsimp only
      generalize hu : (s.discardSlip.count (if x.skip then Stats.addSkip else Stats.addRepeat)).raise
        (.slip x.skip x.error) = u
      have slipped : P u := hu ▸ hP.raise _ (hP.count _ paused)
      have hshow : s.scu.showTime = u.scu.showTime := by rw [← hu]; rfl
      rw [hshow]
      exact hP.forward (onward u _) slipped
  · exact hP.forward (s := s.discardSlip) (fun hday => ⟨Nat.le_refl _, hday⟩) paused

theorem expire (t : LocalTime) (h : P s) : P (s.expire t) :=
  hP.of_blocks (State.updateMemberless_scu ..) (State.updateMemberless_pbu ..) (hP.advanced (s := s.nextStep) s.scu.period (hP.congr (s := s) rfl h))

theorem expireWith (t : LocalTime) (adc : Readings) (n : Nat) (h : P s) : P (s.expireWith t adc n) := by
  cases n with
  | zero =>
    have sampled : P ((s.setInputs adc).sampleSticks adc s.scu.period) := hP.of_blocks (s := s) (by simp) (by simp) h
    exact hP.of_blocks (State.startPass_scu ..) (State.startPass_pbu ..) (hP.expire t sampled)
  | succ n =>
    have read : P (s.setInputs adc) := hP.of_blocks (s := s) rfl rfl h
    exact hP.of_blocks (State.startPass_scu ..) (State.startPass_pbu ..) (hP.expire t read)

theorem stepExpiry (adc : Readings) (n : Nat) (h : P s) {t : State} (ht : exec (.stepExpiry adc n) s = .next t) : P t := by
  cases ht
  refine hP.of_blocks (State.completeEmptyPass_scu _) (State.completeEmptyPass_pbu _) (hP.expireWith _ adc n ?_)
  exact hP.congr (s := s.finishPass) rfl (hP.of_blocks s.finishPass_scu s.finishPass_pbu h)

end ClockInvariant

end Sys2Proof.Machine

/-! ## The two invariants -/

namespace Sys2Proof.Machine

/-! ### The cursor and the lock under the operations of section 7 -/

/-- A forward report that follows show time leaves the cursor behind the entries reached. -/
theorem State.reportForward_timelineOk {s : State} (h : s.timelineOk) {t : Nat} (b : Bool) (hle : s.scu.showTime ≤ t)
    (hday : t ≤ 86399999) : ((s.setShowTime t).reportForward b t).timelineOk := by
  have hspec := ((s.setShowTime t).reportForward_spec b t).1
  have hpassed : (s.setShowTime t).entriesTo t = s.entriesPassed t := State.entriesTo_eq_passed h t
  refine ⟨by simpa using hday, ?_, ?_⟩
  · rw [hspec]
    exact h.2.1
  · rw [State.reportForward_scu, hspec, hpassed]
    exact State.cursor_forward h t hle

@[simp] theorem State.abortBuild_timeline (s : State) : s.abortBuild.pbu.timeline = s.pbu.timeline := by
  unfold State.abortBuild
  split <;> rfl

@[simp] theorem State.abortBuild_cursor (s : State) : s.abortBuild.pbu.cursor = s.pbu.cursor := by
  unfold State.abortBuild
  split <;> rfl

/-- RESTART takes show time to 0, PAUSED and in SEARCH, with the mark receiver hunting (R118, R194). -/
theorem State.restart_scu (s : State) :
    s.restart.scu = { s.scu with showTime := 0, running := false, lock := .search, receiver := .hunting } := by
  simp [State.restart]

theorem State.clearShow_scu (s : State) :
    s.clearShow.scu = { s.scu with showTime := 0, running := false, lock := .search } := by
  simp [State.clearShow, State.emptyShow]

theorem State.restart_timelineOk {s : State} (h : s.timelineOk) : s.restart.timelineOk := by
  have htimeline : s.restart.pbu.timeline = s.pbu.timeline := by simp [State.restart]
  have hcursor : s.restart.pbu.cursor = cursorAt s.pbu.timeline 0 := by simp [State.restart]
  refine (State.timelineOk_iff _).mpr ⟨?_, ?_, ?_⟩
  · rw [State.restart_scu]
    exact Nat.zero_le _
  · rw [htimeline]
    exact h.2.1
  · rw [htimeline, hcursor, State.restart_scu]

theorem State.clearShow_timelineOk (s : State) : s.clearShow.timelineOk := by
  have hpbu : s.clearShow.pbu.timeline = [] ∧ s.clearShow.pbu.cursor = 0 := by simp [State.clearShow, State.emptyShow]
  refine (State.timelineOk_iff _).mpr ⟨?_, ?_, ?_⟩
  · rw [State.clearShow_scu]
    exact Nat.zero_le _
  · rw [hpbu.1]
    exact List.Pairwise.nil
  · rw [hpbu.1, hpbu.2]
    rfl

/-- The timeline, its cursor and show time stay in order (R118, R136, R138). -/
theorem timelineOk_clockInvariant : ClockInvariant State.timelineOk where
  congr := by
    intro s t hrecords h
    simp only [State.clockRecords, Prod.mk.injEq] at hrecords
    obtain ⟨hshow, -, -, htimeline, hcursor⟩ := hrecords
    unfold State.timelineOk at h ⊢
    rwa [hshow, htimeline, hcursor]
  setLock _ h := h
  setReceiver _ h := h
  jumpTo ht h := State.movesTo_timelineOk h ht (State.jumpTo_movesTo h _)
  relocate ht h := State.movesTo_timelineOk h ht (State.relocate_movesTo h _)
  forward ht h := State.reportForward_timelineOk h _ (ht h.1).1 (ht h.1).2
  addEntry h := State.addEntry_timelineOk h _
  removeEntry he h := State.removeEntry_timelineOk h he
  restart h := State.restart_timelineOk h
  clearShow _ := State.clearShow_timelineOk _

theorem State.lockOk_of_scu {s t : State} (hbad : t.scu.lock.badCount ≤ s.scu.lock.badCount)
    (hreceiver : t.scu.receiver = s.scu.receiver) (h : s.lockOk) : t.lockOk := by
  refine ⟨Nat.lt_of_le_of_lt hbad h.1, ?_⟩
  rw [hreceiver]
  exact h.2

/-- The bad count of LOCKED stays below 3, and a mark being collected short of its six body bytes (R121, R128). -/
theorem lockOk_clockInvariant : ClockInvariant State.lockOk where
  congr := by
    intro s t hrecords h
    simp only [State.clockRecords, Prod.mk.injEq] at hrecords
    obtain ⟨-, hlock, hreceiver, -, -⟩ := hrecords
    exact State.lockOk_of_scu (by rw [hlock]) hreceiver h
  setLock := by
    intro s l hl h
    refine ⟨?_, h.2⟩
    have := h.1
    change l.badCount < 3
    omega
  setReceiver hr h := ⟨h.1, hr⟩
  jumpTo _ h := State.lockOk_of_scu (by simp) (by simp) h
  relocate _ h := State.lockOk_of_scu (by simp) (by simp) h
  forward _ h := State.lockOk_of_scu (by simp) (by simp) h
  addEntry h := h
  removeEntry _ h := h
  restart := by
    intro s h
    unfold State.lockOk
    rw [State.restart_scu]
    exact ⟨Nat.zero_lt_succ 2, nofun⟩
  clearShow := by
    intro s h
    refine State.lockOk_of_scu ?_ ?_ h <;> rw [State.clearShow_scu]
    exact Nat.zero_le _

/-! ### The commands that leave the clock records alone -/

/-- The clock, timeline and mark commands, the step expiry, RESTART, CLEAR-SHOW and the image loads. -/
def movesClock : Instr → Bool
  | .powerOn _ | .resetPin _ | .restart _ | .clearShow _ | .showTime _ | .timelineAdd _ | .timelineRemove _
  | .markReceived _ | .markAbandoned | .confirmDeadline | .watchDeadline | .stepExpiry _ _ => true
  | _ => false

/-- The next state of an outcome, if it has one, has the clock records of `s`. -/
def State.outcomeKeepsClock (s : State) (o : Host.Outcome State Fault Refusal) : Prop :=
  ∀ t, o = .next t → t.clockRecords = s.clockRecords

theorem State.keepsClock_next {s t : State} (h : t.clockRecords = s.clockRecords) : s.outcomeKeepsClock (.next t) := by
  rintro _ ⟨⟩
  exact h

theorem State.keepsClock_next_of_blocks {s t : State} (hscu : t.scu = s.scu) (hpbu : t.pbu = s.pbu) :
    s.outcomeKeepsClock (.next t) := State.keepsClock_next (State.clockRecords_of_blocks hscu hpbu)

theorem State.serve_clockRecords {kind : Byte} {q : Request} {body : State → State × Answer}
    (h : ∀ u, (body u).1.clockRecords = u.clockRecords) (s : State) :
    (s.serve kind q body).clockRecords = s.clockRecords := by
  have presented : (s.present { kind := kind, request := q }).clockRecords = s.clockRecords :=
    State.clockRecords_of_blocks (by simp) (by simp)
  unfold State.serve
  dsimp only
  split
  · exact (State.clockRecords_of_blocks (State.complete_scu ..) (State.complete_pbu ..)).trans ((h _).trans presented)
  · exact presented

section
variable {kind : Byte} {q : Request} {checks : State → List (Bool × Status)} {effect : State → State × Answer}

theorem State.keepsClock_request (h : ∀ u, (effect u).1.clockRecords = u.clockRecords) (s : State) :
    s.outcomeKeepsClock (.next (s.serve kind q (changeBody checks effect))) := by
  refine State.keepsClock_next (State.serve_clockRecords (fun u => ?_) s)
  cases hc : firstFailing (checks u) with
  | none => rw [changeBody_accepted hc, h u]
  | some st => rw [changeBody_refused hc]

theorem State.keepsClock_request_of_blocks (hscu : ∀ u, (effect u).1.scu = u.scu) (hpbu : ∀ u, (effect u).1.pbu = u.pbu)
    (s : State) : s.outcomeKeepsClock (.next (s.serve kind q (changeBody checks effect))) :=
  State.keepsClock_request (fun u => State.clockRecords_of_blocks (hscu u) (hpbu u)) s

end

/-! #### Requests with effects of several cases -/

theorem execNoticePoll_clock (q : Request) (s : State) : s.outcomeKeepsClock (execNoticePoll q s) := by
  refine State.keepsClock_request (fun u => ?_) s
  unfold State.pollNotices
  split <;> rfl

theorem execStats_clock (q : Request) (s : State) : s.outcomeKeepsClock (execStats q s) := by
  refine State.keepsClock_request (fun u => ?_) s
  unfold State.takeStats
  dsimp only
  split <;> rfl

theorem execFixtureSlots_clock (q : Request) (s : State) : s.outcomeKeepsClock (execFixtureSlots q s) := by
  refine State.keepsClock_request (fun u => ?_) s
  unfold State.setFixtureSlots
  dsimp only
  split <;> rfl

theorem execTrackBind_clock (q : Request) (s : State) : s.outcomeKeepsClock (execTrackBind q s) := by
  refine State.keepsClock_request (fun u => ?_) s
  unfold State.bindTrack
  dsimp only
  split <;> exact State.clockRecords_of_blocks (by simp) (by simp)

theorem execTrackPoints_clock (q : Request) (s : State) : s.outcomeKeepsClock (execTrackPoints q s) := by
  refine State.keepsClock_request (fun u => ?_) s
  unfold State.appendPoints
  dsimp only
  split <;> rfl

theorem execStickCentre_clock (q : Request) (adc : Readings) (s : State) : s.outcomeKeepsClock (execStickCentre q adc s) := by
  refine State.keepsClock_request (fun u => ?_) s
  unfold State.centreStick
  dsimp only
  split <;> exact State.clockRecords_of_blocks (by simp) (by simp)

theorem execLineSet_clock (q : Request) (s : State) : s.outcomeKeepsClock (execLineSet q s) := by
  refine State.keepsClock_request (fun u => ?_) s
  unfold State.setLine
  dsimp only
  split <;> exact State.clockRecords_of_blocks (by simp) (by simp)

theorem execCuePart_clock (q : Request) (s : State) : s.outcomeKeepsClock (execCuePart q s) := by
  refine State.keepsClock_request (fun u => ?_) s
  split
  · rfl
  · simp [State.clockRecords, State.abortFull]

/-! #### Events -/

theorem execUnknownKind_clock (kind : Byte) (q : Request) (s : State) : s.outcomeKeepsClock (execUnknownKind kind q s) := by
  unfold execUnknownKind
  split
  · exact State.keepsClock_next rfl
  · exact State.keepsClock_next (State.serve_clockRecords (fun _ => rfl) s)

theorem execFrameAbandoned_clock (s : State) : s.outcomeKeepsClock (execFrameAbandoned s) := by
  unfold execFrameAbandoned
  split <;> exact State.keepsClock_next rfl

theorem execReplySent_clock (s : State) : s.outcomeKeepsClock (execReplySent s) := by
  unfold execReplySent
  split <;> exact State.keepsClock_next rfl

theorem execSaveCompletion_clock (matched : Bool) (s : State) : s.outcomeKeepsClock (execSaveCompletion matched s) := by
  unfold execSaveCompletion
  split <;> exact State.keepsClock_next rfl

theorem execFrameStart_clock (l : Fin 8) (s : State) : s.outcomeKeepsClock (execFrameStart l s) := by
  unfold execFrameStart
  split <;> exact State.keepsClock_next rfl

theorem execFrameSent_clock (l : Fin 8) (s : State) : s.outcomeKeepsClock (execFrameSent l s) := by
  unfold execFrameSent
  split
  · exact State.keepsClock_next (by simp [State.clockRecords, State.endFrame])
  · exact State.keepsClock_next rfl

theorem execFaultInputAsserted_clock (l : Fin 8) (s : State) : s.outcomeKeepsClock (execFaultInputAsserted l s) := by
  unfold execFaultInputAsserted
  dsimp only
  split <;> exact State.keepsClock_next_of_blocks (by simp) (by simp)

theorem execFixtureEvaluation_clock (s : State) : s.outcomeKeepsClock (execFixtureEvaluation s) := by
  unfold execFixtureEvaluation
  split <;> exact State.keepsClock_next_of_blocks (by simp) (by simp)

/-! #### Every command -/

theorem exec_clockRecords (c : Instr) (s : State) (hc : movesClock c = false) : s.outcomeKeepsClock (exec c s) := by
  cases c with
  | powerOn _ | resetPin _ | restart _ | clearShow _ | showTime _ | timelineAdd _ | timelineRemove _ | markReceived _
  | markAbandoned | confirmDeadline | watchDeadline | stepExpiry _ _ => cases hc
  | unitQuery q | profileRead q | fixtureRead q | groupRead q | zoneRead q | fixtureQuery q | cueRead q | clockQuery q
  | timelineRead q | trackQuery q | stickQuery q | lineQuery q | lineImage q | save q | profileLoad q | profileRemove q
  | zoneSet q | clockSet q | stickSet q | stickZero q | linePin q | lineStatic q =>
    exact State.keepsClock_request (fun _ => rfl) s
  | aim q | tint q | level q | park q | stop q | douse q | release q =>
    exact State.keepsClock_request_of_blocks (fun u => u.changeSelected_scu q _) (fun u => u.changeSelected_pbu q _) s
  | fixtureDefine q => exact State.keepsClock_request (fun u => by rw [State.defineFixture_eq]; rfl) s
  | fixtureRemove q => exact State.keepsClock_request (fun u => by rw [State.removeFixture_eq]; rfl) s
  | fixtureSlots q => exact execFixtureSlots_clock q s
  | groupSet q =>
    exact State.keepsClock_request_of_blocks (fun u => by rw [State.setGroup_eq]) (fun u => by rw [State.setGroup_eq]) s
  | go q => exact State.keepsClock_request_of_blocks (fun u => Firing.walk_scu ..) (fun u => Firing.walk_pbu ..) s
  | cueOpen q => exact State.keepsClock_request (fun u => by rw [State.openCue_eq, State.clockRecords]; rfl) s
  | cuePart q => exact execCuePart_clock q s
  | cueDelete q => exact State.keepsClock_request (fun u => by rw [State.deleteCue_eq]; rfl) s
  | noticePoll q => exact execNoticePoll_clock q s
  | stats q => exact execStats_clock q s
  | trackBind q => exact execTrackBind_clock q s
  | trackPoints q => exact execTrackPoints_clock q s
  | trackRelease q =>
    exact State.keepsClock_request_of_blocks (fun u => u.releaseTrack_scu _) (fun u => u.releaseTrack_pbu _) s
  | stickCentre q adc => exact execStickCentre_clock q adc s
  | stickSample q adc =>
    exact State.keepsClock_request_of_blocks (fun u => by simp [State.sampleOnce]) (fun u => by simp [State.sampleOnce]) s
  | lineSet q => exact execLineSet_clock q s
  | unknownKind kind q => exact execUnknownKind_clock kind q s
  | frameReceived bytes =>
    exact State.keepsClock_next_of_blocks (foldl_keeps State.scu _ State.linkByte_scu bytes s)
      (foldl_keeps State.pbu _ State.linkByte_pbu bytes s)
  | frameAbandoned => exact execFrameAbandoned_clock s
  | replySent => exact execReplySent_clock s
  | saveCompletion matched => exact execSaveCompletion_clock matched s
  | frameStart line => exact execFrameStart_clock line s
  | frameSent line => exact execFrameSent_clock line s
  | faultInputAsserted line => exact execFaultInputAsserted_clock line s
  | faultInputReleased line => exact State.keepsClock_next rfl
  | fixtureEvaluation => exact execFixtureEvaluation_clock s
  | passCompletion => exact State.keepsClock_next_of_blocks s.finishPass_scu s.finishPass_pbu

/-! ### The commands that move the clock records -/

namespace ClockInvariant

variable {P : State → Prop} (hP : ClockInvariant P) {s t : State}
include hP

/-- A request whose accepted effect keeps the property keeps it, also where it waits or is refused. -/
theorem request {kind : Byte} {q : Request} {checks : State → List (Bool × Status)} {effect : State → State × Answer}
    (heffect : ∀ u, firstFailing (checks u) = none → P u → P (effect u).1) (h : P s) :
    P (s.serve kind q (changeBody checks effect)) := by
  have presented : P (s.present { kind := kind, request := q }) := hP.of_blocks (s := s) (by simp) (by simp) h
  unfold State.serve
  dsimp only
  split
  · refine hP.of_blocks (State.complete_scu ..) (State.complete_pbu ..) ?_
    cases hc : firstFailing (checks (s.present { kind := kind, request := q })) with
    | none =>
      rw [changeBody_accepted hc]
      exact heffect _ hc presented
    | some st => rwa [changeBody_refused hc]
  · exact presented

theorem showTimeRequest (q : Request) (h : P s) (ht : exec (.showTime q) s = .next t) : P t := by
  cases ht
  refine hP.request (fun u hc hu => hP.setRunning _ (hP.jumpTo ?_ hu)) h
  rw [firstFailing_eq_none_iff] at hc
  simp only [List.forall_mem_cons, decide_eq_true_eq] at hc
  exact hc.2.1

theorem timelineRemoveRequest (q : Request) (h : P s) (ht : exec (.timelineRemove q) s = .next t) : P t := by
  cases ht
  refine hP.request (fun u hc hu => hP.removeEntry ?_ hu) h
  rw [firstFailing_eq_none_iff] at hc
  simp only [timelineChecks, tableChecks, List.forall_mem_cons, List.contains_iff_mem] at hc
  obtain ⟨-, -, -, -, hmem, -⟩ := hc
  exact hmem

theorem restartRequest (q : Request) (h : P s) (ht : exec (.restart q) s = .next t) : P t := by
  cases ht
  have presented : P (s.present { kind := 0x05, request := q }) := hP.of_blocks (s := s) (by simp) (by simp) h
  unfold State.serveRestart
  dsimp only
  split
  · split
    · exact hP.of_blocks (State.complete_scu ..) (State.complete_pbu ..) presented
    · refine hP.restart ?_
      split <;> exact hP.congr (s := s.present _) rfl presented
  · exact presented

theorem deadline (h : P s) : (exec .confirmDeadline s = .next t → P t) ∧ (exec .watchDeadline s = .next t → P t) := by
  have later (u : Nat) : P (s.advanceTo u) := hP.congr (s := s) rfl h
  constructor
  · intro ht
    simp only [exec, execConfirmDeadline] at ht
    split at ht <;> cases ht
    · exact hP.enterLock (Nat.zero_lt_succ 2) (later _)
    all_goals exact h
  · intro ht
    simp only [exec, execWatchDeadline] at ht
    split at ht <;> cases ht
    · exact hP.countBad _ _ _ _ _ (later _)
    all_goals exact h

theorem markAbandoned (h : P s) (ht : exec .markAbandoned s = .next t) : P t := by
  simp only [exec, execMarkAbandoned] at ht
  split at ht <;> cases ht
  · exact h
  · exact hP.abandonMark h

/-- Every command but an image load keeps the property. -/
theorem exec_keeps (c : Instr) (hl : c.loadsImage = false) (h : P s) (ht : exec c s = .next t) : P t := by
  by_cases hc : movesClock c = false
  · exact hP.congr (exec_clockRecords c s hc t ht) h
  · cases c with
    | powerOn straps => cases hl
    | resetPin straps => cases hl
    | restart q => exact hP.restartRequest q h ht
    | clearShow q =>
      cases ht
      exact hP.request (fun _ _ hu => hP.clearShow hu) h
    | showTime q => exact hP.showTimeRequest q h ht
    | timelineAdd q =>
      cases ht
      exact hP.request (fun _ _ hu => hP.addEntry hu) h
    | timelineRemove q => exact hP.timelineRemoveRequest q h ht
    | markReceived bytes =>
      cases ht
      exact hP.syncBytes bytes h
    | markAbandoned => exact hP.markAbandoned h ht
    | confirmDeadline => exact (hP.deadline h).1 ht
    | watchDeadline => exact (hP.deadline h).2 ht
    | stepExpiry adc sampling => exact hP.stepExpiry adc sampling h ht
    | _ => exact absurd rfl hc

/-- A step keeps the property when the front command, where it is an image load, does. -/
theorem step_keeps (hload : ∀ c ∈ s.pending, c.loadsImage = true → ∀ u v : State, P u → exec c u = .next v → P v)
    (h : P s) (ht : step s = .next t) : P t := by
  unfold step at ht
  split at ht
  · next c rest hq =>
    have front : P (s.withPending rest) := hP.congr (s := s) rfl h
    cases hl : c.loadsImage with
    | false => exact hP.exec_keeps c hl front ht
    | true => exact hload c (hq ▸ List.mem_cons_self ..) hl _ _ front ht
  · unfold State.idle at ht
    dsimp only at ht
    split at ht
    · exact hP.exec_keeps _ (s.ownEvents_loadsImage _ s.nextEvent_mem) h ht
    · cases ht
      exact hP.congr (s := s) rfl h

end ClockInvariant

/-! ### Every step -/

/-- A step puts no command into the queue. -/
theorem step_pending_mem {s t : State} (hload : ∀ c ∈ s.pending, c.loadsImage = false) (ht : step s = .next t) :
    ∀ c ∈ t.pending, c.loadsImage = false := by
  unfold step at ht
  split at ht
  · next c rest hq =>
    rw [hq, List.forall_mem_cons] at hload
    rw [(exec_keepsAngles c (s.withPending rest) hload.1 t ht).1]
    exact hload.2
  · rwa [(s.idle_keepsAngles t ht).1]

/-- Settles O47: the timeline in order is an invariant of the clock records. -/
theorem cursorFollowsShowTime : Obligations.CursorFollowsShowTime := by
  intro s t hload h ht
  refine ⟨timelineOk_clockInvariant.step_keeps (fun c hc hl => ?_) h ht, step_pending_mem hload ht⟩
  rw [hload c hc] at hl
  cases hl

/-- An image load leaves the lock machine in SEARCH and the mark receiver hunting (R121). -/
theorem State.startUp_lockOk (s : State) (straps : BitVec 4) : (s.startUp straps).lockOk := by
  have hscu : ∃ w : ShowImage, (s.startUp straps).scu = w.scu := by
    unfold State.startUp
    cases validBody s.ims.flash with
    | none => exact ⟨ShowImage.defaults, by simp [State.loadShow]⟩
    | some body => exact ⟨showOf body, by simp [State.loadShow]⟩
  obtain ⟨w, hw⟩ := hscu
  unfold State.lockOk
  rw [hw]
  exact ⟨Nat.zero_lt_succ 2, nofun⟩

/-- Settles O53: the lock in order is an invariant of the clock records, and holds after an image load. -/
theorem lockStaysInOrder : Obligations.LockStaysInOrder := by
  intro s t h ht
  refine lockOk_clockInvariant.step_keeps (fun c _ hl u v _ hv => ?_) h ht
  cases c with
  | powerOn straps => exact Host.Outcome.next.inj hv ▸ u.startUp_lockOk straps
  | resetPin straps => exact Host.Outcome.next.inj hv ▸ u.startUp_lockOk straps
  | _ => cases hl

end Sys2Proof.Machine

/-! ## Timing marks and the lock machine -/

namespace Sys2Proof.Machine

/-! ### The mark receiver (R121) -/

theorem State.setMarkReceiver_of_eq {s : State} {r : MarkReceiver} (h : s.scu.receiver = r) : s.setMarkReceiver r = s := by
  subst h
  rfl

/-- A byte that follows the last one at once finds the mark still being collected. -/
theorem State.syncByte_collecting (s : State) (taken : List Byte) (b : Byte) :
    (s.setMarkReceiver (.collecting taken s.scu.timeUs)).syncByte b =
      if taken.length < 5 then s.setMarkReceiver (.collecting (taken ++ [b]) s.scu.timeUs)
      else (s.setMarkReceiver .hunting).completeMark (taken ++ [b]) := by
  have hgap : (s.setMarkReceiver (.collecting taken s.scu.timeUs)).checkMarkGap =
      s.setMarkReceiver (.collecting taken s.scu.timeUs) :=
    if_neg (Nat.not_lt.mpr (Nat.le_add_right ..))
  rw [State.syncByte, hgap]
  rfl

/-- The bytes left of a mark complete it. -/
theorem State.syncBytes_complete (s : State) (rest taken : List Byte) (hrest : rest ≠ [])
    (hlength : taken.length + rest.length = 6) :
    rest.foldl State.syncByte (s.setMarkReceiver (.collecting taken s.scu.timeUs)) =
      (s.setMarkReceiver .hunting).completeMark (taken ++ rest) := by
  induction rest generalizing taken with
  | nil => exact absurd rfl hrest
  | cons b rest ih =>
    rw [List.length_cons] at hlength
    rw [List.foldl_cons, State.syncByte_collecting]
    cases rest with
    | nil =>
      rw [List.length_nil] at hlength
      rw [if_neg (by omega)]
      rfl
    | cons b' rest' =>
      rw [List.length_cons] at hlength
      rw [if_pos (by omega), ih (taken ++ [b]) (by simp) (by simp; omega), List.append_assoc, List.singleton_append]

section
variable {s : State} {body : List Byte}

/-- A mark given whole to a hunting receiver is complete when its last byte has arrived. -/
theorem exec_markReceived (hreceiver : s.scu.receiver = .hunting) (hbody : body.length = 6) :
    exec (.markReceived (0xA7 :: body)) s = .next (s.completeMark body) := by
  have hgap : s.checkMarkGap = s := by
    unfold State.checkMarkGap
    rw [hreceiver]
  have hfirst : s.syncByte 0xA7 = s.setMarkReceiver (.collecting [] s.scu.timeUs) := by
    rw [State.syncByte, hgap, State.takeSyncByte, hreceiver]
    rfl
  change Host.Outcome.next (body.foldl State.syncByte (s.syncByte 0xA7)) = _
  rw [hfirst, State.syncBytes_complete s body [] (by rintro rfl; cases hbody) (by simpa using hbody),
    State.setMarkReceiver_of_eq hreceiver, List.nil_append]

/-- The mark whose six body bytes are complete now. -/
def State.markOf (s : State) (body : List Byte) : Mark :=
  { time := u32 body 1, run := u8 body 0 % 2 == 1, arrival := s.localClock }

theorem State.completeMark_valid (hsum : body.foldl (· + ·) (0 : Byte) = 0) (htime : u32 body 1 ≤ 86399999) :
    s.completeMark body = (s.count Stats.addValidMark).takeMark (s.markOf body) :=
  if_pos ⟨hsum, htime⟩

theorem State.completeMark_failed (h : ¬(body.foldl (· + ·) (0 : Byte) = 0 ∧ u32 body 1 ≤ 86399999)) :
    s.completeMark body = (s.count Stats.addBadMark).takeFailedMark := if_neg h

end

/-! ### Marks in SEARCH and HOLDOVER (R123, R129) -/

/-- Settles O50: a mark in SEARCH or HOLDOVER is taken by the rule for both. -/
theorem markInSearchIsRemembered : Obligations.MarkInSearchIsRemembered := by
  intro s body hreceiver hlock hbody
  rw [exec_markReceived hreceiver hbody]
  refine ⟨fun hsum htime => ?_, fun hfailed => ?_⟩
  · rw [State.completeMark_valid hsum htime]
    rcases hlock with h | h <;> simp only [State.takeMark, State.count_scu, h] <;> rfl
  · have hboth : ¬(body.foldl (· + ·) (0 : Byte) = 0 ∧ u32 body 1 ≤ 86399999) := fun hv =>
      hfailed.elim (fun hsum => hsum hv.1) (fun htime => Nat.not_le.mpr htime hv.2)
    rw [State.completeMark_failed hboth]
    rcases hlock with h | h <;> simp only [State.takeFailedMark, State.count_scu, h]

/-! ### Deadlines and broken marks (R124, R126, R128) -/

theorem State.countBad_of_lt {s : State} {bad : Nat} (h : bad < 3) (r : Mark) (w : LocalTime) (c : Option Mark)
    (x : Option Slip) : s.countBad r bad w c x = s.setLock (.locked r bad w c x) := if_neg (Nat.not_le.mpr h)

theorem State.countBad_of_le {s : State} {bad : Nat} (h : 3 ≤ bad) (r : Mark) (w : LocalTime) (c : Option Mark)
    (x : Option Slip) : s.countBad r bad w c x = s.enterLock .holdover := if_pos h

/-- Settles O52, deadline by deadline. -/
theorem deadlinesMoveTheLock : Obligations.DeadlinesMoveTheLock := by
  intro s
  refine ⟨fun m d h => ?_, fun h => ?_, fun r bad w c x h => ?_, fun h => ?_, fun h => ?_, fun body last h => ?_⟩
  · simp only [exec, execConfirmDeadline, h, State.advanceTo_usOf]
    rfl
  · simp only [exec, execConfirmDeadline]
    split
    · next hl => exact absurd (congrArg Lock.name hl) h
    all_goals rfl
  · have hexec : exec .watchDeadline s = .next ((s.advanceTo (s.usOf w)).countBad r (bad + 1)
        (w + BitVec.ofNat 32 s.scu.markInterval) c x) := by
      simp only [exec, execWatchDeadline, h]
      rfl
    rw [hexec, State.advanceTo_usOf]
    refine ⟨fun hlt => ?_, fun hle => ?_⟩
    · rw [State.countBad_of_lt hlt]
      rfl
    · rw [State.countBad_of_le hle]
      rfl
  · simp only [exec, execWatchDeadline]
    split
    · next hl => exact absurd (congrArg Lock.name hl) h
    all_goals rfl
  · simp only [exec, execMarkAbandoned, h]
  · simp only [exec, execMarkAbandoned, h]
    rfl

/-! ### What a heeded mark does (R131, R132) -/

theorem Lock.withSlip_withSlip (l : Lock) (x y : Option Slip) : (l.withSlip x).withSlip y = l.withSlip y := by
  cases l <;> rfl

/-- A relocation has discarded the slip already. -/
theorem State.relocate_discardSlip (s : State) (t : Nat) : (s.relocate t).discardSlip = s.relocate t := by
  have hlock : (s.relocate t).scu.lock.withSlip none = (s.relocate t).scu.lock := by
    rw [State.relocate_scu]
    exact Lock.withSlip_withSlip s.scu.lock none none
  rw [State.discardSlip, hlock]
  rfl

/-- The lock records `l` after the decision on error `e` of mark `m`, at step period `p` and jump threshold `j` (R132). -/
def Lock.decided (l : Lock) (p j : Nat) (m : Mark) (e : Int) : Lock :=
  if (j : Int) ≤ e.natAbs then l.withCandidate (some m)
  else if (p : Int) ≤ e then l.withSlip (some { skip := true, error := e })
  else if e ≤ -(p : Int) then l.withSlip (some { skip := false, error := e })
  else l.withSlip none

/-- The slip decision touches the lock records alone. -/
theorem State.slipDecision_eq (s : State) (m : Mark) (e : Int) :
    s.slipDecision m e = s.setLock (s.scu.lock.decided s.scu.period s.scu.jumpThreshold m e) := by
  unfold State.slipDecision Lock.decided
  dsimp only
  repeat' split
  all_goals rfl

theorem State.setRunning_scu (s : State) (r : Bool) : (s.setRunning r).scu = { s.scu with running := r } := by
  unfold State.setRunning
  split
  · next h =>
    subst h
    rfl
  · rfl

/-- A relocation after the run state is set is measured from the show time before. -/
theorem State.ran_relocate_movesTo {s : State} (h : s.timelineOk) (r : Bool) (time : Nat) :
    (s.ran r).movesTo ((s.setRunning r).relocate time) time
      (decide (s.scu.jumpThreshold ≤ ((time : Int) - s.scu.showTime).natAbs)) := by
  have moved := State.relocate_movesTo (timelineOk_clockInvariant.setRunning r h) time
  rwa [State.setRunning_scu] at moved

theorem State.actOnMark_running {s : State} {m : Mark} (hm : m.run = true) (hrunning : s.scu.running = true) :
    s.actOnMark m = s.setLock (s.scu.lock.decided s.scu.period s.scu.jumpThreshold m ((m.time : Int) - s.scu.showTime)) := by
  simp only [State.actOnMark, hm, hrunning, State.slipDecision_eq]

/-- A mark of LOCKED acts as R131 and R132 say. -/
theorem State.actOnMark_heeds {s : State} (h : s.timelineOk) (m : Mark) : s.heeds (s.actOnMark m) m := by
  unfold State.heeds
  dsimp only
  by_cases hboth : m.run = true ∧ s.scu.running = true
  · rw [if_pos hboth]
    exact State.actOnMark_running hboth.1 hboth.2
  · rw [if_neg hboth]
    have moved := State.ran_relocate_movesTo h m.run m.time
    cases hrun : m.run <;> cases hrunning : s.scu.running <;> rw [hrun] at moved <;> simp only [State.actOnMark, hrun, hrunning]
    · rwa [State.setRunning, if_pos hrunning] at moved
    · rwa [State.relocate_discardSlip]
    · exact moved
    · exact absurd ⟨hrun, hrunning⟩ hboth

/-! ### Marks in CONFIRM and LOCKED (R122, R124 to R128) -/

/-- A mark is consistent with its base when its time lies in the span of R122. -/
theorem consistent_iff (base m : Mark) :
    consistent base m = true ↔
      (base.time : Int) + (if base.run = true ∧ m.run = true then (m.arrival - base.arrival).toInt else 0) - 3 ≤ m.time ∧
        (m.time : Int) ≤
          base.time + (if base.run = false ∧ m.run = false then 0 else (m.arrival - base.arrival).toInt) + 3 := by
  unfold consistent since
  cases base.run <;> cases m.run <;> simp [Config.markTolerance]

section
variable {s : State} {m r : Mark} {d w : LocalTime} {bad : Nat} {candidate : Option Mark} {slip : Option Slip}

theorem State.takeMark_confirm (h : s.scu.lock = .confirm r d) :
    s.takeMark m = if consistent r m then s.enterLocked m else s.setLock (.confirm m (s.deadlineAfter m.arrival)) := by
  simp only [State.takeMark, h]

theorem State.takeMark_locked (h : s.scu.lock = .locked r bad w candidate slip) :
    s.takeMark m = s.lockedMark m r bad candidate slip := by
  simp only [State.takeMark, h]

theorem State.takeFailedMark_locked (h : s.scu.lock = .locked r bad w candidate slip) :
    s.takeFailedMark = s.countBad r (bad + 1) (s.deadlineAfter s.localClock) candidate slip := by
  simp only [State.takeFailedMark, h]

/-- Entry to LOCKED: the LOCK notice, the jump where the error reaches J, and the action of the mark (R125). -/
theorem State.enterLocked_spec (h : s.timelineOk) (hm : m.time ≤ 86399999) :
    let entered := s.enterLock (.locked m 0 (s.deadlineAfter m.arrival) none none)
    ∃ v : State, v.heeds (s.enterLocked m) m ∧
      if s.scu.jumpThreshold ≤ ((m.time : Int) - s.scu.showTime).natAbs then entered.movesTo v m.time true
      else v = entered := by
  intro entered
  have hentered : entered.timelineOk := h
  by_cases hjump : s.scu.jumpThreshold ≤ ((m.time : Int) - s.scu.showTime).natAbs
  · have hlocked : s.enterLocked m = (entered.jumpTo m.time).actOnMark m := congrArg (State.actOnMark · m) (if_pos hjump)
    refine ⟨entered.jumpTo m.time, ?_, ?_⟩
    · rw [hlocked]
      exact State.actOnMark_heeds (timelineOk_clockInvariant.jumpTo hm hentered) m
    · rw [if_pos hjump]
      exact State.jumpTo_movesTo hentered m.time
  · have hlocked : s.enterLocked m = entered.actOnMark m := congrArg (State.actOnMark · m) (if_neg hjump)
    refine ⟨entered, ?_, ?_⟩
    · rw [hlocked]
      exact State.actOnMark_heeds hentered m
    · rw [if_neg hjump]

theorem State.lockedMark_candidate (hc : candidate.any (fun c => consistent c m) = true) :
    s.lockedMark m r bad candidate slip =
      ((s.setLock (.locked m 0 (s.deadlineAfter m.arrival) none slip)).jumpTo m.time).actOnMark m := if_pos hc

theorem State.lockedMark_reference (hc : candidate.any (fun c => consistent c m) = false) (hr : consistent r m = true) :
    s.lockedMark m r bad candidate slip =
      (s.setLock (.locked m 0 (s.deadlineAfter m.arrival) none slip)).actOnMark m :=
  (if_neg (by simp [hc])).trans (if_pos hr)

theorem State.lockedMark_inconsistent (hc : candidate.any (fun c => consistent c m) = false) (hr : consistent r m = false) :
    s.lockedMark m r bad candidate slip = s.countBad r (bad + 1) (s.deadlineAfter m.arrival) (some m) slip :=
  (if_neg (by simp [hc])).trans (if_neg (by simp [hr]))

end

/-- A bad mark of LOCKED, as a choice by the bad count. -/
theorem State.countBad_eq (s : State) (r : Mark) (bad : Nat) (w : LocalTime) (c : Option Mark) (x : Option Slip) :
    s.countBad r bad w c x = if bad < 3 then s.setLock (.locked r bad w c x) else s.enterLock .holdover := by
  split
  · next h => exact State.countBad_of_lt h r w c x
  · next h => exact State.countBad_of_le (Nat.le_of_not_lt h) r w c x

/-- Settles O41: the two states, each mark by the case of its rule. -/
theorem marksMoveTheLock : Obligations.MarksMoveTheLock := by
  refine ⟨consistent_iff, ?_⟩
  intro s body h hreceiver hbody m next valid heard failed
  have hexec := exec_markReceived hreceiver hbody
  have hvalid : valid → exec (.markReceived (0xA7 :: body)) s = .next ((s.count Stats.addValidMark).takeMark m) :=
    fun hv => hexec.trans (congrArg _ (State.completeMark_valid hv.1 hv.2))
  have hfailed : ¬valid → exec (.markReceived (0xA7 :: body)) s = .next (s.count Stats.addBadMark).takeFailedMark :=
    fun hv => hexec.trans (congrArg _ (State.completeMark_failed hv))
  refine ⟨fun r d hlock => ⟨fun hv => ?_, fun hv hcons => ?_, fun hv hcons => ?_⟩,
    fun r bad w candidate slip hlock =>
      ⟨fun hv hcand => ?_, fun hv hcand hcons => ?_, fun hv hcand hcons => ?_, fun hv => ?_⟩⟩
  · rw [hfailed hv]
    simp only [State.takeFailedMark, State.count_scu, hlock]
  · rw [hvalid hv, State.takeMark_confirm (s := s.count Stats.addValidMark) hlock, hcons]
    rfl
  · obtain ⟨v, hheeds, hmoved⟩ := State.enterLocked_spec (s := s.count Stats.addValidMark) h hv.2
    refine ⟨v, _, ?_, hheeds, hmoved⟩
    rw [hvalid hv, State.takeMark_confirm (s := s.count Stats.addValidMark) hlock, hcons]
    rfl
  · have hlocked : (heard (.locked m 0 next none slip)).timelineOk := h
    refine ⟨(heard (.locked m 0 next none slip)).jumpTo m.time, _, ?_, State.jumpTo_movesTo hlocked m.time,
      State.actOnMark_heeds (timelineOk_clockInvariant.jumpTo hv.2 hlocked) m⟩
    rw [hvalid hv, State.takeMark_locked (s := s.count Stats.addValidMark) hlock, State.lockedMark_candidate hcand]
    rfl
  · have hlocked : (heard (.locked m 0 next none slip)).timelineOk := h
    refine ⟨_, ?_, State.actOnMark_heeds hlocked m⟩
    rw [hvalid hv, State.takeMark_locked (s := s.count Stats.addValidMark) hlock, State.lockedMark_reference hcand hcons]
    rfl
  · rw [hvalid hv, State.takeMark_locked (s := s.count Stats.addValidMark) hlock, State.lockedMark_inconsistent hcand hcons, State.countBad_eq]
    rfl
  · rw [hfailed hv, State.takeFailedMark_locked (s := s.count Stats.addBadMark) hlock, State.countBad_eq]
    rfl

/-! ### The slip decision of a mark in LOCKED (R132) -/

/-- A consistent mark of LOCKED with RUN set, while RUNNING: the lock records of its decision. -/
theorem State.lockedMark_running {s : State} {m r : Mark} {bad : Nat} {candidate : Option Mark} {slip : Option Slip}
    (hc : candidate.any (fun c => consistent c m) = false) (hr : consistent r m = true) (hm : m.run = true)
    (hrunning : s.scu.running = true) :
    s.lockedMark m r bad candidate slip = s.setLock ((Lock.locked m 0 (s.deadlineAfter m.arrival) none slip).decided
      s.scu.period s.scu.jumpThreshold m ((m.time : Int) - s.scu.showTime)) := by
  rw [State.lockedMark_reference hc hr]
  exact State.actOnMark_running hm hrunning

/-- Settles O51: the four ranges of the error, each with the lock records it leaves. -/
theorem lockedMarkDecidesSlip : Obligations.LockedMarkDecidesSlip := by
  intro s body r bad w candidate slip hreceiver hlock hrunning hbody hsum htime hrun hperiod hthreshold m e hcons hcand
  have hm : s.markOf body = m := by simp [State.markOf, m, hrun]
  have hany : candidate.any (fun c => consistent c m) = false := by
    cases candidate with
    | none => rfl
    | some c => exact hcand c rfl
  have hexec : exec (.markReceived (0xA7 :: body)) s = .next ((s.setLock ((Lock.locked m 0
      (s.localClock + BitVec.ofNat 32 (3 * s.scu.markInterval)) none slip).decided s.scu.period s.scu.jumpThreshold m e)).count
        Stats.addValidMark) := by
    rw [exec_markReceived hreceiver hbody, State.completeMark_valid hsum htime, hm,
      State.takeMark_locked (s := s.count Stats.addValidMark) hlock,
      State.lockedMark_running (s := s.count Stats.addValidMark) hany hcons rfl hrunning]
    rfl
  rw [hexec, Lock.decided]
  by_cases hjump : (s.scu.jumpThreshold : Int) ≤ e.natAbs
  · rw [if_pos hjump]
    exact ⟨some m, slip, rfl, fun _ => ⟨rfl, rfl⟩, fun _ _ => by omega, fun _ _ => by omega, fun _ => by omega⟩
  rw [if_neg hjump]
  by_cases hskip : (s.scu.period : Int) ≤ e
  · rw [if_pos hskip]
    exact ⟨none, _, rfl, fun _ => by omega, fun _ _ => ⟨rfl, rfl⟩, fun _ _ => by omega, fun _ => by omega⟩
  rw [if_neg hskip]
  by_cases hrepeat : e ≤ -(s.scu.period : Int)
  · rw [if_pos hrepeat]
    exact ⟨none, _, rfl, fun _ => by omega, fun _ _ => by omega, fun _ _ => ⟨rfl, rfl⟩, fun _ => by omega⟩
  · rw [if_neg hrepeat]
    exact ⟨none, none, rfl, fun _ => by omega, fun _ _ => by omega, fun _ _ => by omega, fun _ => ⟨rfl, rfl⟩⟩

end Sys2Proof.Machine

/-! ## SHOW-TIME and CLOCK-SET -/

namespace Sys2Proof.Machine

/-! ### The counters of the SCU -/

/-- The counters of Table 31 that the SCU counts its slips and jumps in. -/
def State.moveCounts (s : State) : Counter × Counter × Counter :=
  (s.rqd.stats.skips, s.rqd.stats.repeats, s.rqd.stats.jumps)

section
variable (s : State)

@[simp] theorem State.raise_moveCounts (n : Notice) : (s.raise n).moveCounts = s.moveCounts := by
  unfold State.moveCounts State.raise Rqd.raise
  dsimp only
  split <;> rfl

@[simp] theorem State.missed_moveCounts (es : List TimelineEntry) : (s.missed es).moveCounts = s.moveCounts :=
  foldl_keeps State.moveCounts _ (fun u e => by split <;> simp) es s

theorem State.moveCounts_of_rqd {s t : State} (h : t.rqd = s.rqd) : t.moveCounts = s.moveCounts := by
  rw [State.moveCounts, h]
  rfl

@[simp] theorem State.reportForward_moveCounts (b : Bool) (t : Nat) :
    (s.reportForward b t).moveCounts = s.moveCounts := by
  have hrqd : (s.reportForward b t).rqd = (s.missed (s.entriesTo t)).rqd := by
    conv_lhs => rw [(s.reportForward_spec b t).1]
  rw [State.moveCounts_of_rqd hrqd, State.missed_moveCounts]

/-! ### A jump block by block (R120) -/

theorem State.reportForward_pbu (b : Bool) (t : Nat) :
    (s.reportForward b t).pbu = { s.pbu with cursor := (s.reportForward b t).pbu.cursor } := by
  rw [(s.reportForward_spec b t).1]

theorem State.jumpTo_pbu (t : Nat) : (s.jumpTo t).pbu = { s.pbu with cursor := (s.jumpTo t).pbu.cursor } := by
  unfold State.jumpTo
  dsimp only
  split
  · exact State.reportForward_pbu _ true t
  · rfl

/-- A jump is counted once. -/
theorem State.jumpTo_jumps (t : Nat) : (s.jumpTo t).rqd.stats.jumps = s.rqd.stats.jumps + 1 := by
  have moved (u : State) (n : Notice) (h : u.moveCounts = s.moveCounts) :
      ((u.raise n).count Stats.addJump).rqd.stats.jumps = s.rqd.stats.jumps + 1 :=
    congrArg (·.2.2 + 1) ((u.raise_moveCounts n).trans h)
  unfold State.jumpTo
  dsimp only
  split
  · exact moved _ _ (State.reportForward_moveCounts ..)
  · exact moved _ _ rfl

/-- A jump back fires nothing. -/
theorem State.jumpTo_fxe_of_le {t : Nat} (h : t ≤ s.scu.showTime) : (s.jumpTo t).fxe = s.fxe := by
  unfold State.jumpTo
  dsimp only
  rw [if_neg (Nat.not_lt.mpr h)]
  rfl

theorem State.setRunning_moveCounts (r : Bool) : (s.setRunning r).moveCounts = s.moveCounts := by
  unfold State.setRunning
  split
  · rfl
  · exact State.raise_moveCounts _ _

end

/-! ### The requests (R133, R134) -/

theorem Lock.withSlip_none_of_not_locked {l : Lock} (h : l.name ≠ .locked) : l.withSlip none = l := by
  cases l with
  | locked => exact absurd rfl h
  | _ => rfl

theorem Lock.isLocked_iff (l : Lock) : l.isLocked = true ↔ l.name = .locked := by
  cases l <;> simp [Lock.isLocked, Lock.name]

/-- An accepted SHOW-TIME, block by block. -/
theorem State.setClock_spec (s : State) (hlock : s.scu.lock.name ≠ .locked) {time : Nat} (htime : time ≤ 86399999)
    (run : Bool) :
    let t := (s.setClock time run).1
    t.scu = { s.scu with showTime := time, running := run } ∧ t.rqd.stats.jumps = s.rqd.stats.jumps + 1 ∧
      t.pbu = { s.pbu with cursor := t.pbu.cursor } ∧ (s.timelineOk → t.timelineOk) ∧
      (time ≤ s.scu.showTime → t.fxe = s.fxe) ∧
      (s.timelineOk → ∃ jumped, s.movesTo jumped time true ∧ t = jumped.ran run) ∧
      t = { s with scu := t.scu, rqd := t.rqd, pbu := t.pbu, fxe := t.fxe } := by
  intro t
  have ht : t = (s.jumpTo time).setRunning run := rfl
  refine ⟨?_, ?_, ?_, fun h => ?_, fun hback => ?_, fun h => ⟨s.jumpTo time, State.jumpTo_movesTo h time, rfl⟩, ?_⟩
  · rw [ht, State.setRunning_scu, State.jumpTo_scu, Lock.withSlip_none_of_not_locked hlock]
  · rw [← s.jumpTo_jumps time]
    exact congrArg (·.2.2) ((s.jumpTo time).setRunning_moveCounts run)
  · rw [ht, State.setRunning_pbu]
    exact s.jumpTo_pbu time
  · exact timelineOk_clockInvariant.setRunning run (timelineOk_clockInvariant.jumpTo htime h)
  · rw [ht, State.setRunning_fxe]
    exact s.jumpTo_fxe_of_le hback
  · rw [ht]
    exact State.ext_blocks (by simp) rfl rfl rfl rfl (by simp) (by simp) (by simp) (by simp) (by simp)

/-- SHOW-TIME answers the show time and the run state it has set. -/
theorem State.setClock_answer (s : State) (time : Nat) (run : Bool) :
    (s.setClock time run).2 = .ok (be32 time ++ [boolByte run]) := by
  have hscu : (s.setClock time run).1.scu = { (s.jumpTo time).scu with running := run } := State.setRunning_scu ..
  rw [State.jumpTo_scu] at hscu
  change Answer.ok (be32 (s.setClock time run).1.scu.showTime ++ [boolByte (s.setClock time run).1.scu.running]) = _
  rw [hscu]

section
variable {s : State} {q : Request} {time : Nat} {run : Bool}

theorem showTime_fields (hp : q.payload = be32 time ++ [boolByte run]) (htime : time ≤ 86399999) :
    u32 q.payload 0 = time ∧ u8 q.payload 4 < 2 ∧ (u8 q.payload 4 == 1) = run := by
  have hrun : u8 q.payload 4 = (boolByte run).toNat := by
    rw [hp]
    rfl
  refine ⟨?_, ?_, ?_⟩
  · rw [hp, u32_be32]
    omega
  · rw [hrun]
    cases run <;> decide
  · rw [hrun]
    cases run <;> rfl

/-- The checks of SHOW-TIME on a payload that fits come to the one on LOCKED (R133). -/
theorem showTimeChecks_passed (hp : q.payload = be32 time ++ [boolByte run]) (htime : time ≤ 86399999) (l : Lock) :
    firstFailing [(hasLength q 5, .badLength), (decide (u32 q.payload 0 ≤ Config.dayEnd), .badValue),
      (decide (u8 q.payload 4 < 2), .badValue), (!l.isLocked, .inUse)] = firstFailing [(!l.isLocked, .inUse)] := by
  obtain ⟨hfield, hbool, -⟩ := showTime_fields hp htime
  have hlength : hasLength q 5 = true := hasLength_of_eq hp
  simp [hlength, hfield, htime, hbool]

theorem execShowTime_refused (hserving : s.serving 0x38 q) (hp : q.payload = be32 time ++ [boolByte run])
    (htime : time ≤ 86399999) (hlock : s.scu.lock.name = .locked) :
    exec (.showTime q) s = .next (s.answered 0x38 q (.refuse .inUse)) := by
  refine congrArg _ (State.serve_refused hserving ((showTimeChecks_passed hp htime s.scu.lock).trans ?_))
  simp [(Lock.isLocked_iff _).mpr hlock]

theorem execShowTime_accepted (hserving : s.serving 0x38 q) (hp : q.payload = be32 time ++ [boolByte run])
    (htime : time ≤ 86399999) (hlock : s.scu.lock.name ≠ .locked) :
    exec (.showTime q) s =
      .next ((s.setClock time run).1.answered 0x38 q (.ok (be32 time ++ [boolByte run]))) := by
  obtain ⟨hfield, -, hrun⟩ := showTime_fields hp htime
  rw [← s.setClock_answer time run, ← hfield, ← hrun]
  refine congrArg _ (State.serve_accepted hserving ((showTimeChecks_passed hp htime s.scu.lock).trans ?_))
  simp [Bool.eq_false_iff.mpr (mt (Lock.isLocked_iff _).mp hlock)]

theorem execClockSet_accepted {p i j : Nat} (hserving : s.serving 0x39 q) (hsaving : s.ims.saving = none)
    (hpayload : q.payload = [byteOf p, byteOf i] ++ be16 j) (hp : p ∈ [2, 4, 5, 8, 10]) (hi : 10 ≤ i ∧ i ≤ 100)
    (hj : 20 ≤ j ∧ j ≤ 10000) :
    exec (.clockSet q) s = .next ((s.setClockSettings p i j).1.answered 0x39 q (s.setClockSettings p i j).2) := by
  have hsmall : p < 256 := by
    have hle : ∀ x ∈ [2, 4, 5, 8, 10], x < 256 := by decide
    exact hle p hp
  have hfieldp : u8 q.payload 0 = p := by
    rw [hpayload]
    exact u8_byteOf_cons p _ hsmall
  have hfieldi : u8 q.payload 1 = i := u8_second (by omega) hpayload
  have hfieldj : u16 q.payload 2 = j := by
    have htail := u16_drop q.payload 2 0
    rw [hpayload] at htail ⊢
    exact htail.symm.trans ((u16_be16 j []).trans (by omega))
  have hlength : hasLength q 4 = true := hasLength_of_eq hpayload
  simp only [exec, execClockSet, hfieldp, hfieldi, hfieldj]
  refine congrArg _ (State.serve_accepted hserving ?_)
  have hlisted : [2, 4, 5, 8, 10].contains p = true := List.contains_iff_mem.mpr hp
  rw [tableChecks_passed hlength hsaving, hlisted]
  simp [hi, hj]

end

/-- Settles O49: each request by its checks and its effect. -/
theorem clockRequests : Obligations.ClockRequests := by
  intro s q
  refine ⟨fun time run hserving hp htime => ⟨execShowTime_refused hserving hp htime, fun hlock => ?_⟩,
    fun p i j hserving hsaving hpayload hp hi hi' hj hj' =>
      execClockSet_accepted hserving hsaving hpayload hp ⟨hi, hi'⟩ ⟨hj, hj'⟩⟩
  exact ⟨(s.setClock time run).1, execShowTime_accepted hserving hp htime hlock, s.setClock_spec hlock htime run⟩

end Sys2Proof.Machine

/-! ## The step on an empty queue -/

namespace Sys2Proof.Machine

/-- The event that comes first is due no later than any. -/
theorem earliest_due_le (best : OwnEvent) (l : List OwnEvent) :
    (earliest best l).due ≤ best.due ∧ ∀ e ∈ l, (earliest best l).due ≤ e.due := by
  induction l generalizing best with
  | nil => exact ⟨Nat.le_refl _, nofun⟩
  | cons d l ih =>
    obtain ⟨hbest, hrest⟩ := ih (if d.due < best.due then d else best)
    have hboth : (if d.due < best.due then d else best).due ≤ best.due ∧
        (if d.due < best.due then d else best).due ≤ d.due := by
      split <;> omega
    refine ⟨hbest.trans hboth.1, List.forall_mem_cons.mpr ⟨hbest.trans hboth.2, hrest⟩⟩

/-- No event of a list displaces one that is due no later. -/
theorem earliest_of_le {best : OwnEvent} {l : List OwnEvent} (h : ∀ d ∈ l, best.due ≤ d.due) : earliest best l = best := by
  induction l with
  | nil => rfl
  | cons d l ih =>
    obtain ⟨hd, hl⟩ := List.forall_mem_cons.mp h
    rw [earliest, if_neg (Nat.not_lt.mpr hd), ih hl]

/-- An event due before all those ahead of it, and no later than those behind it, comes first. -/
theorem earliest_append {best e : OwnEvent} {before after : List OwnEvent} (hbest : e.due < best.due)
    (hbefore : ∀ d ∈ before, e.due < d.due) (hafter : ∀ d ∈ after, e.due ≤ d.due) :
    earliest best (before ++ e :: after) = e := by
  induction before generalizing best with
  | nil => rw [List.nil_append, earliest, if_pos hbest, earliest_of_le hafter]
  | cons d before ih =>
    obtain ⟨hd, hrest⟩ := List.forall_mem_cons.mp hbefore
    rw [List.cons_append, earliest]
    refine ih ?_ hrest
    split <;> assumption

/-- The next event is due no later than any other. -/
theorem State.nextEvent_due_le (s : State) : ∀ e ∈ s.ownEvents, s.nextEvent.due ≤ e.due := by
  intro e he
  unfold State.nextEvent
  split
  · next h =>
    rw [h] at he
    cases he
  · next d rest h =>
    rw [h] at he
    obtain ⟨hfirst, hrest⟩ := earliest_due_le d rest
    rcases List.mem_cons.mp he with rfl | he
    · exact hfirst
    · exact hrest e he

theorem State.nextEvent_eq {s : State} {before after : List OwnEvent} {e : OwnEvent}
    (h : s.ownEvents = before ++ e :: after) (hbefore : ∀ d ∈ before, e.due < d.due)
    (hafter : ∀ d ∈ after, e.due ≤ d.due) : s.nextEvent = e := by
  unfold State.nextEvent
  cases before with
  | nil =>
    rw [h]
    exact earliest_of_le hafter
  | cons d before =>
    obtain ⟨hd, hrest⟩ := List.forall_mem_cons.mp hbefore
    rw [h]
    exact earliest_append hd hrest hafter

theorem step_of_idle {s : State} (h : s.pending = []) : step s = s.idle := by
  unfold step
  rw [h]

/-- Settles O3: the next event is the earliest, and the first of those due together. -/
theorem idleStepLetsTimePass : Obligations.IdleStepLetsTimePass := by
  intro s hq
  rw [step_of_idle hq, State.idle]
  refine ⟨fun hahead => ?_, fun before after e h hdue hbefore hafter => ?_⟩
  · have hnext := hahead s.nextEvent s.nextEvent_mem
    dsimp only
    rw [if_neg (Nat.not_le.mpr hnext)]
    refine ⟨min s.nextEvent.due ((s.scu.timeUs / 1000 + 1) * 1000), ?_, by omega, by omega, fun e he => ?_, ?_⟩
    · rw [State.advanceTo, Nat.max_eq_right (by omega)]
    · have := s.nextEvent_due_le e he
      omega
    · by_cases hle : s.nextEvent.due ≤ (s.scu.timeUs / 1000 + 1) * 1000
      · exact .inr ⟨s.nextEvent, s.nextEvent_mem, Nat.min_eq_left hle⟩
      · exact .inl (Nat.min_eq_right (Nat.le_of_not_le hle))
  · have hnext := State.nextEvent_eq h hbefore hafter
    rw [hnext, if_pos hdue]

end Sys2Proof.Machine

/-! ## The step expiry -/

namespace Sys2Proof.Machine

/-! ### The stick sampling (R152): what it reads -/

section
variable {u v : State} (r : Readings) (n : Nat)

theorem State.sampleStick_inputs (u : State) (i : Fin 2) : (u.sampleStick r n i).sku.inputs = u.sku.inputs := by
  unfold State.sampleStick State.convert
  split
  · simp
  · rfl

/-- The sampling leaves what the stick inputs present. -/
theorem State.sampleSticks_inputs (u : State) : (u.sampleSticks r n).sku.inputs = u.sku.inputs := by
  rw [State.sampleSticks, State.sampleStick_inputs, State.sampleStick_inputs]

theorem State.sampleStick_sticks_congr (h : u.sku.sticks = v.sku.sticks) (i : Fin 2) :
    (u.sampleStick r n i).sku.sticks = (v.sampleStick r n i).sku.sticks := by
  unfold State.sampleStick State.convert
  rw [h]
  split
  · simp [h]
  · exact h

/-- The sticks after a sampling come from the sticks before it. -/
theorem State.sampleSticks_sticks_congr (h : u.sku.sticks = v.sku.sticks) :
    (u.sampleSticks r n).sku.sticks = (v.sampleSticks r n).sku.sticks :=
  State.sampleStick_sticks_congr r n (State.sampleStick_sticks_congr r n h 0) 1

theorem State.raise_rqd_congr (hrqd : u.rqd = v.rqd) (htime : u.scu.timeUs = v.scu.timeUs) (m : Notice) :
    (u.raise m).rqd = (v.raise m).rqd := by
  rw [State.raise_rqd, State.raise_rqd, State.localClock, State.localClock, hrqd, htime]

theorem State.raiseFaultChange_rqd_congr (hrqd : u.rqd = v.rqd) (htime : u.scu.timeUs = v.scu.timeUs) (i : Fin 2) (ax : Axis)
    (a b : Bool) : (u.raiseFaultChange i ax a b).rqd = (v.raiseFaultChange i ax a b).rqd := by
  unfold State.raiseFaultChange
  split
  · exact hrqd
  · exact State.raise_rqd_congr hrqd htime _

theorem State.convert_rqd_congr (h : u.sku.sticks = v.sku.sticks) (hrqd : u.rqd = v.rqd)
    (htime : u.scu.timeUs = v.scu.timeUs) (i : Fin 2) (x y : Nat) : (u.convert i x y).rqd = (v.convert i x y).rqd := by
  unfold State.convert
  rw [h]
  dsimp only
  refine State.raiseFaultChange_rqd_congr (State.raiseFaultChange_rqd_congr ?_ ?_ ..) ?_ ..
  · exact hrqd
  · exact htime
  · simpa using htime

theorem State.sampleStick_rqd_congr (h : u.sku.sticks = v.sku.sticks) (hrqd : u.rqd = v.rqd)
    (htime : u.scu.timeUs = v.scu.timeUs) (i : Fin 2) : (u.sampleStick r n i).rqd = (v.sampleStick r n i).rqd := by
  unfold State.sampleStick
  rw [h]
  split
  · exact State.convert_rqd_congr h hrqd htime i _ _
  · exact hrqd

/-- The notices of a sampling come from the sticks, the notices and the clock. -/
theorem State.sampleSticks_rqd_congr (h : u.sku.sticks = v.sku.sticks) (hrqd : u.rqd = v.rqd)
    (htime : u.scu.timeUs = v.scu.timeUs) : (u.sampleSticks r n).rqd = (v.sampleSticks r n).rqd :=
  State.sampleStick_rqd_congr r n (State.sampleStick_sticks_congr r n h 0) (State.sampleStick_rqd_congr r n h hrqd htime 0)
    (by simpa using htime) 1

theorem State.raiseFaultChange_moveCounts (s : State) (i : Fin 2) (ax : Axis) (a b : Bool) :
    (s.raiseFaultChange i ax a b).moveCounts = s.moveCounts := by
  unfold State.raiseFaultChange
  split
  · rfl
  · exact s.raise_moveCounts _

theorem State.sampleStick_moveCounts (s : State) (i : Fin 2) : (s.sampleStick r n i).moveCounts = s.moveCounts := by
  unfold State.sampleStick
  split
  · exact (State.raiseFaultChange_moveCounts _ i .y _ _).trans (State.raiseFaultChange_moveCounts _ i .x _ _)
  · rfl

theorem State.sampleSticks_moveCounts (s : State) : (s.sampleSticks r n).moveCounts = s.moveCounts :=
  (State.sampleStick_moveCounts r n _ 1).trans (State.sampleStick_moveCounts r n s 0)

end

/-! ### The tracks at an expiry (R147) -/

/-- What the update of a track sees: the tracks, the notices and counters, the fixtures and the clock. -/
def State.trackView (s : State) : Vector Track 4 × Rqd × Vector (Option Fixture) 128 × Nat :=
  (s.tku, s.rqd, s.fxe.fixtures, s.scu.timeUs)

section
variable {u v : State} (t : LocalTime)

theorem State.updateTrack_trackView (h : u.trackView = v.trackView) (k : Fin 4) :
    (u.updateTrack k t).trackView = (v.updateTrack k t).trackView := by
  have hview := h
  simp only [State.trackView, Prod.mk.injEq] at hview
  obtain ⟨htku, hrqd, hfix, htime⟩ := hview
  unfold State.updateTrack
  rw [htku]
  split
  · exact h
  · dsimp only
    split <;> simp [State.trackView, State.localClock, htku, hrqd, hfix, htime]

theorem State.members_congr (h : u.fxe.fixtures = v.fxe.fixtures) (k : Fin 4) : u.members k = v.members k := by
  simp only [State.members, State.fixturesWhere, State.fixture?, h]

theorem State.updateMemberless_eq_foldl (s : State) :
    s.updateMemberless t =
      (List.finRange 4).foldl (fun u k => if u.members k = [] then u.updateTrack k t else u) s := by
  simp only [State.updateMemberless, List.isEmpty_iff]

/-- The tracks and notices after the update of the bound tracks without members come from those before. -/
theorem State.updateMemberless_trackView (h : u.trackView = v.trackView) :
    (u.updateMemberless t).trackView = (v.updateMemberless t).trackView := by
  rw [State.updateMemberless_eq_foldl, State.updateMemberless_eq_foldl]
  generalize List.finRange 4 = l
  induction l generalizing u v with
  | nil => exact h
  | cons k l ih =>
    have hfix : u.fxe.fixtures = v.fxe.fixtures := congrArg (·.2.2.1) h
    refine ih ?_
    dsimp only
    rw [State.members_congr hfix k]
    split
    · exact State.updateTrack_trackView t h k
    · exact h

theorem State.updateTrack_moveCounts (s : State) (k : Fin 4) : (s.updateTrack k t).moveCounts = s.moveCounts := by
  unfold State.updateTrack
  split
  · rfl
  · dsimp only
    split
    · rfl
    · exact State.raise_moveCounts _ _
    · exact State.raise_moveCounts _ _

theorem State.updateMemberless_moveCounts (s : State) : (s.updateMemberless t).moveCounts = s.moveCounts :=
  foldl_keeps State.moveCounts _ (fun u k => by split <;> simp [State.updateTrack_moveCounts]) _ s

/-- Track `k` stands UNBOUND or updated to `t`: an update to `t` has nothing to do. -/
def State.trackSettled (s : State) (t : LocalTime) (k : Fin 4) : Prop :=
  (s.tku[k]).state = .unbound ∨ (s.tku[k]).updated = some t

theorem State.updateTrack_settles (s : State) (k : Fin 4) : (s.updateTrack k t).trackSettled t k := by
  unfold State.trackSettled
  rw [State.updateTrack_tku]
  split
  · next h => exact .inl h
  · exact .inr (by simpa using Track.updateTo_updated s.tku[k] t)

theorem State.updateTrack_keeps_settled {s : State} {k : Fin 4} (h : s.trackSettled t k) (j : Fin 4) :
    (s.updateTrack j t).trackSettled t k := by
  by_cases hjk : j = k
  · subst hjk
    exact s.updateTrack_settles t j
  · have hv : j.val ≠ k.val := fun e => hjk (Fin.ext e)
    unfold State.trackSettled at h ⊢
    rw [State.updateTrack_tku]
    split
    · exact h
    · simpa [hv] using h

/-- With no fixture defined every track is without members, and all of them are settled at the expiry. -/
theorem State.updateMemberless_settles {s : State} (hnone : ∀ i, s.fixture? i = none) (k : Fin 4) :
    (s.updateMemberless t).trackSettled t k := by
  have hmembers (u : State) (hfxe : u.fxe = s.fxe) (j : Fin 4) : u.members j = [] := by
    rw [State.members_congr (v := s) (by rw [hfxe])]
    simp [State.members, State.fixturesWhere, hnone]
  have settled (l : List (Fin 4)) (u : State) (hfxe : u.fxe = s.fxe) (hk : k ∈ l ∨ u.trackSettled t k) :
      (l.foldl (fun u k => if u.members k = [] then u.updateTrack k t else u) u).trackSettled t k := by
    induction l generalizing u with
    | nil => exact hk.resolve_left nofun
    | cons j l ih =>
      rw [List.foldl_cons, if_pos (hmembers u hfxe j)]
      refine ih _ (by simp [hfxe]) ?_
      rcases hk with hk | hk
      · rcases List.mem_cons.mp hk with rfl | hk
        · exact .inr (u.updateTrack_settles t _)
        · exact .inl hk
      · exact .inr (State.updateTrack_keeps_settled t hk j)
  rw [State.updateMemberless_eq_foldl]
  exact settled _ s rfl (.inl (List.mem_finRange k))

/-- Where every track is settled, the completion of the pass updates none. -/
theorem State.updateRemaining_of_settled {s : State} (h : ∀ k, s.trackSettled t k) : s.updateRemaining t = s := by
  have once (k : Fin 4) : s.updateTrackOnce k t = s := by
    unfold State.updateTrackOnce
    split
    · rfl
    · next hne => exact State.updateTrack_of_unbound ((h k).resolve_right hne)
  unfold State.updateRemaining
  generalize List.finRange 4 = l
  induction l with
  | nil => rfl
  | cons k l ih => rw [List.foldl_cons, once k, ih]

end

end Sys2Proof.Machine

namespace Sys2Proof.Machine

/-! ### The advance of show time (R117, R132) -/

/-- How far show time advances at an expiry of step length `step` while RUNNING: under a SKIP twice, under a REPEAT not. -/
def Lock.advance (l : Lock) (step : Nat) : Nat :=
  match l.slip with
  | none => step
  | some x => if x.skip then 2 * step else 0

/-- Show time after an expiry of step length `step`. -/
def State.nextShowTime (s : State) (step : Nat) : Nat :=
  if s.scu.running then min (s.scu.showTime + s.scu.lock.advance step) 86399999 else s.scu.showTime

/-- `s` after the counter and the SLIP notice of a slip that is used up. -/
def State.slipTold (s : State) : State :=
  if s.scu.running then
    (match s.scu.lock.slip with
      | none => s
      | some x => (s.count (if x.skip then Stats.addSkip else Stats.addRepeat)).raise (.slip x.skip x.error))
  else s

theorem Lock.withSlip_of_slip_none {l : Lock} (h : l.slip = none) : l.withSlip none = l := by
  cases l with
  | locked m b w c x =>
    cases h
    rfl
  | _ => rfl

theorem State.slipTold_eq (s : State) : s.slipTold = { s with rqd := s.slipTold.rqd } := by
  unfold State.slipTold
  split
  · split <;> rfl
  · rfl

/-- The advance of show time, with the slip told first. -/
theorem State.advanceShow_eq (s : State) (step : Nat) :
    s.advanceShow step = { s with
      scu := { s.scu with showTime := s.nextShowTime step, lock := s.scu.lock.withSlip none }, rqd := s.slipTold.rqd } := by
  unfold State.advanceShow State.slipTold State.nextShowTime Lock.advance
  cases hrunning : s.scu.running with
  | false => rfl
  | true =>
    cases hslip : s.scu.lock.slip with
    | none =>
      rw [Lock.withSlip_of_slip_none hslip]
      simp only [if_true, State.setShowTime, advancedTime, Config.dayEnd]
    | some x =>
      simp only [if_true, State.setShowTime, State.discardSlip, State.setLock, State.count, State.raise, advancedTime,
        Config.dayEnd]
      rw [hrunning]
      rfl

theorem State.slipTold_rqd_congr {u v : State} (hrqd : u.rqd = v.rqd) (htime : u.scu.timeUs = v.scu.timeUs)
    (hrunning : u.scu.running = v.scu.running) (hlock : u.scu.lock = v.scu.lock) : u.slipTold.rqd = v.slipTold.rqd := by
  unfold State.slipTold
  rw [hrunning, hlock]
  split
  · split
    · exact hrqd
    · refine State.raise_rqd_congr (u := u.count _) (v := v.count _) ?_ htime _
      simp [hrqd]
  · exact hrqd

/-- A slip used up is counted once, as a skip or as a repeat. -/
theorem State.slipTold_moveCounts (s : State) :
    s.slipTold.moveCounts =
      (s.rqd.stats.skips + (if s.scu.running ∧ s.scu.lock.slip.any Slip.skip then 1 else 0),
        s.rqd.stats.repeats + (if s.scu.running ∧ s.scu.lock.slip.any (fun x => !x.skip) then 1 else 0),
        s.rqd.stats.jumps) := by
  unfold State.slipTold
  cases s.scu.running with
  | false => simp [State.moveCounts]
  | true =>
    cases s.scu.lock.slip with
    | none => simp [State.moveCounts]
    | some x =>
      obtain ⟨skip, error⟩ := x
      simp only [if_true, State.raise_moveCounts]
      cases skip <;> simp [State.moveCounts, Stats.addSkip, Stats.addRepeat]

/-! ### The work of the SCU (R117) -/

section
variable (s : State) (t : LocalTime)

/-- `s` after orders 1 and 2 of R117: the waiting period is in force, and show time has advanced. -/
def State.advancedStep (s : State) : State := s.nextStep.advanceShow s.scu.period

theorem State.advancedStep_eq :
    s.advancedStep = { s with
      scu := { s.scu with
        period := s.scu.waiting.getD s.scu.period, waiting := none
        nextExpiry := s.scu.nextExpiry + BitVec.ofNat 32 (s.scu.waiting.getD s.scu.period)
        showTime := s.nextShowTime s.scu.period, lock := s.scu.lock.withSlip none }
      rqd := s.slipTold.rqd } := by
  have hrqd : s.nextStep.slipTold.rqd = s.slipTold.rqd := State.slipTold_rqd_congr rfl rfl rfl rfl
  rw [State.advancedStep, State.advanceShow_eq, hrqd]
  rfl

theorem State.expire_eq :
    s.expire t = (s.advancedStep.reportForward false (s.nextShowTime s.scu.period)).updateMemberless t := by
  have hshow : s.advancedStep.scu.showTime = s.nextShowTime s.scu.period := by rw [State.advancedStep_eq]
  rw [← hshow]
  rfl

theorem State.expire_scu : (s.expire t).scu = { s.scu with
    period := s.scu.waiting.getD s.scu.period, waiting := none
    nextExpiry := s.scu.nextExpiry + BitVec.ofNat 32 (s.scu.waiting.getD s.scu.period)
    showTime := s.nextShowTime s.scu.period, lock := s.scu.lock.withSlip none } := by
  rw [State.expire_eq, State.updateMemberless_scu, State.reportForward_scu, State.advancedStep_eq]

theorem State.expire_pbu : (s.expire t).pbu = { s.pbu with cursor := (s.expire t).pbu.cursor } := by
  have hpbu : s.advancedStep.pbu = s.pbu := by rw [State.advancedStep_eq]
  rw [State.expire_eq, State.updateMemberless_pbu, State.reportForward_pbu, hpbu]

/-- The entries reached are handed on from the state after the advance. -/
theorem State.expire_fxe : (s.expire t).fxe = { s.fxe with fixtures := (s.expire t).fxe.fixtures } := by
  have hfxe : s.advancedStep.fxe = s.fxe := by rw [State.advancedStep_eq]
  rw [State.expire_eq, State.updateMemberless_fxe, (State.reportForward_spec ..).1, hfxe]

theorem State.expire_fixture?_eq_none_iff (i : Fin 128) : (s.expire t).fixture? i = none ↔ s.fixture? i = none := by
  have hfixture : (s.expire t).fixture? i =
      (s.advancedStep.reportForward false (s.nextShowTime s.scu.period)).fixture? i := by
    rw [State.expire_eq, State.fixture?, State.updateMemberless_fxe]
    rfl
  rw [hfixture, (State.reportForward_spec ..).2, Option.map_eq_none_iff, State.advancedStep_eq]
  rfl

theorem State.expire_moveCounts : (s.expire t).moveCounts = s.slipTold.moveCounts := by
  rw [State.expire_eq, State.updateMemberless_moveCounts, State.reportForward_moveCounts, State.advancedStep_eq]
  rfl

section
variable {s}

/-- Show time does not go back at an expiry, and an advance hands on the entries it passes. -/
theorem State.advancedStep_entriesTo (h : s.timelineOk) :
    s.advancedStep.entriesTo (s.nextShowTime s.scu.period) = s.entriesPassed (s.nextShowTime s.scu.period) := by
  rw [← State.entriesTo_eq_passed h, State.advancedStep_eq]
  rfl

/-- An expiry fires the READY cues of the entries passed on the SHOW base. -/
theorem State.expire_fixture? (h : s.timelineOk) (i : Fin 128) :
    (s.expire t).fixture? i = (s.fixture? i).map
      (s.timelineGives (s.entriesPassed (s.nextShowTime s.scu.period)) (s.nextShowTime s.scu.period) false i) := by
  have hgives : s.advancedStep.timelineGives = s.timelineGives :=
    State.timelineGives_congr (by rw [State.advancedStep_eq]) (by rw [State.advancedStep_eq])
  have hshow : s.advancedStep.scu.showTime = s.nextShowTime s.scu.period := by rw [State.advancedStep_eq]
  have hfixture : s.advancedStep.fixture? i = s.fixture? i := by
    rw [State.advancedStep_eq]
    rfl
  have hspec := (s.advancedStep.reportForward_spec false (s.nextShowTime s.scu.period)).2 i
  rw [State.advancedStep_entriesTo h, hgives, hshow, hfixture] at hspec
  rw [← hspec, State.expire_eq, State.fixture?, State.updateMemberless_fxe]
  rfl

/-- What the tracks see of an expiry: the slip and the entries passed have been told, the cues have fired. -/
theorem State.expire_trackView {u : State} (h : s.timelineOk) (htku : u.tku = s.tku)
    (hrqd : u.rqd = (s.slipTold.missed (s.entriesPassed (s.nextShowTime s.scu.period))).rqd)
    (hfix : u.fxe.fixtures = (s.expire t).fxe.fixtures) (htime : u.scu.timeUs = s.scu.timeUs) :
    (s.expire t).trackView = (u.updateMemberless t).trackView := by
  rw [State.expire_eq] at hfix ⊢
  refine State.updateMemberless_trackView t ?_
  have hreported : (s.advancedStep.reportForward false (s.nextShowTime s.scu.period)).rqd = u.rqd := by
    rw [hrqd]
    conv_lhs => rw [(State.reportForward_spec ..).1]
    rw [State.advancedStep_entriesTo h]
    refine State.missed_rqd_congr _ ?_ ?_ ?_
    · rw [State.advancedStep_eq, State.slipTold_eq]
    · rw [State.advancedStep_eq]
    · rw [State.advancedStep_eq, State.slipTold_eq]
  have hkept : (s.advancedStep.reportForward false (s.nextShowTime s.scu.period)).tku = s.tku := by
    rw [(State.reportForward_spec ..).1, State.advancedStep_eq]
  have hclock : (s.advancedStep.reportForward false (s.nextShowTime s.scu.period)).scu.timeUs = s.scu.timeUs := by
    rw [State.reportForward_scu, State.advancedStep_eq]
  rw [State.updateMemberless_fxe] at hfix
  simp only [State.trackView, hreported, hkept, hclock, htku, hfix, htime]

end

end

/-! ### The start of the pass (R35) -/

/-- `s` when the SCU begins its work at the step expiry: at its scheduled time, with the sticks read, and sampled where the
sampling stands before that work (log entries 2, 9 and 12). -/
def State.expiryStart (s : State) (adc : Readings) (sampling : Nat) : State :=
  let now := (s.advanceTo (s.usOf s.scu.nextExpiry)).setInputs adc
  if sampling = 0 then now.sampleSticks adc s.scu.period else now

/-- The stick sampling an expiry leaves to its pass (log entry 9). -/
def State.expirySampling (s : State) (adc : Readings) (sampling : Nat) : Option Sampling :=
  if sampling = 0 then none else some { adc := adc, stepLength := s.scu.period, before := sampling - 1 }

/-- `s` at the start of the pass of its step expiry. -/
def State.passStart (s : State) (adc : Readings) (sampling : Nat) : State :=
  ((s.expiryStart adc sampling).expire s.scu.nextExpiry).startPass s.scu.nextExpiry (s.expirySampling adc sampling)

section
variable {s : State} (adc : Readings) (sampling : Nat)

theorem exec_stepExpiry (hp : s.fxe.pass = none) :
    exec (.stepExpiry adc sampling) s = .next (s.passStart adc sampling).completeEmptyPass := by
  have hexec : exec (.stepExpiry adc sampling) s = .next (((s.finishPass.advanceTo
      (s.finishPass.usOf s.finishPass.scu.nextExpiry)).expireWith s.finishPass.scu.nextExpiry adc sampling).completeEmptyPass) := rfl
  rw [hexec, State.finishPass_of_no_pass hp]
  cases sampling <;> rfl

/-- The start of an expiry: the sticks, their notices and the time alone have moved. -/
theorem State.expiryStart_eq (s : State) :
    s.expiryStart adc sampling = { s with
      scu := { s.scu with timeUs := s.usOf s.scu.nextExpiry }, sku := (s.expiryStart adc sampling).sku
      rqd := (s.expiryStart adc sampling).rqd } := by
  unfold State.expiryStart
  rw [State.advanceTo_usOf]
  split
  · exact State.ext_blocks (by simp) rfl (by simp) (by simp) (by simp) (by simp) rfl (by simp) (by simp) (by simp)
  · rfl

theorem State.expiryStart_inputs (s : State) : (s.expiryStart adc sampling).sku.inputs = adc := by
  unfold State.expiryStart
  split
  · rw [State.sampleSticks_inputs]
    rfl
  · rfl

theorem State.expiryStart_sticks (s : State) :
    (s.expiryStart adc sampling).sku.sticks =
      if sampling = 0 then (s.sampleSticks adc s.scu.period).sku.sticks else s.sku.sticks := by
  unfold State.expiryStart
  split
  · exact State.sampleSticks_sticks_congr _ _ rfl
  · rfl

theorem State.expiryStart_rqd (s : State) :
    let now : State := { s with scu := { s.scu with timeUs := s.usOf s.scu.nextExpiry } }
    (s.expiryStart adc sampling).rqd = (if sampling = 0 then now.sampleSticks adc s.scu.period else now).rqd := by
  unfold State.expiryStart
  rw [State.advanceTo_usOf]
  split
  · exact State.sampleSticks_rqd_congr _ _ rfl rfl rfl
  · rfl

theorem State.expiryStart_moveCounts (s : State) : (s.expiryStart adc sampling).moveCounts = s.moveCounts := by
  unfold State.expiryStart
  split
  · exact State.sampleSticks_moveCounts ..
  · rfl

/-! ### A pass that finds no fixture (log entry 30) -/

theorem State.expand_all_eq_nil_iff (s : State) : s.expand .all = [] ↔ ∀ i, s.fixture? i = none := by
  rw [List.eq_nil_iff_forall_not_mem]
  simp only [State.mem_expand]
  refine forall_congr' fun i => ?_
  cases s.fixture? i <;> simp [Selector.names]

theorem State.completeEmptyPass_eq (s : State) [Decidable (∀ i, s.fixture? i = none)] :
    s.completeEmptyPass = if ∀ i, s.fixture? i = none then s.completePass else s := by
  simp only [State.completeEmptyPass, List.isEmpty_iff, State.expand_all_eq_nil_iff]

/-- `s` after a sampling that may be left to it. -/
def State.met (s : State) (x : Option Sampling) : State := x.elim s fun x => s.sampleSticks x.adc x.stepLength

/-- Where every track is settled, a pass completed at its start takes its sampling and swaps the images. -/
theorem State.completePass_startPass {s : State} {t : LocalTime} (h : ∀ k, s.trackSettled t k) (x : Option Sampling) :
    (s.startPass t x).completePass = (((s.startPass t x).met x).swapImages).setPass none := by
  have settled : ∀ k, ((s.startPass t x).met x).trackSettled t k := by
    have htku : ((s.startPass t x).met x).tku = s.tku := by cases x <;> simp [State.met]
    intro k
    unfold State.trackSettled
    rw [htku]
    exact h k
  have hcomplete : (s.startPass t x).completePass =
      ((((s.startPass t x).met x).updateRemaining t).swapImages).setPass none := by
    cases x <;> rfl
  rw [hcomplete, State.updateRemaining_of_settled t settled]

end

end Sys2Proof.Machine

namespace Sys2Proof.Machine

/-! ### The expiry as a whole -/

/-- `s` after its step expiry, with the completion of a pass that finds no fixture. -/
def State.expired (s : State) (adc : Readings) (sampling : Nat) : State := (s.passStart adc sampling).completeEmptyPass

section
variable (s : State)

theorem State.fixture?_congr {s t : State} (h : t.fxe.fixtures = s.fxe.fixtures) (i : Fin 128) :
    t.fixture? i = s.fixture? i := by
  unfold State.fixture?
  rw [h]

theorem State.startPass_fxe (t : LocalTime) (x : Option Sampling) :
    (s.startPass t x).fxe =
      { s.fxe with
        pass := some ⟨t, s.scu.showTime, s.scu.period, 0, x⟩ } := rfl

theorem State.updateMemberless_fixture? (t : LocalTime) (s : State) (i : Fin 128) :
    (s.updateMemberless t).fixture? i = s.fixture? i :=
  State.fixture?_congr (congrArg Fxe.fixtures (s.updateMemberless_fxe t)) i

theorem State.met_none : s.met none = s := rfl

theorem State.met_some (x : Sampling) : s.met (some x) = s.sampleSticks x.adc x.stepLength := rfl

variable (x : Option Sampling)

theorem State.met_fxe : (s.met x).fxe = s.fxe := by cases x <;> simp [State.met]

theorem State.met_tku : (s.met x).tku = s.tku := by cases x <;> simp [State.met]

theorem State.met_lnu : (s.met x).lnu = s.lnu := by cases x <;> simp [State.met]

theorem State.met_inputs : (s.met x).sku.inputs = s.sku.inputs := by
  cases x with
  | none => rfl
  | some x => exact State.sampleSticks_inputs ..

theorem State.met_moveCounts : (s.met x).moveCounts = s.moveCounts := by
  cases x with
  | none => rfl
  | some x => exact State.sampleSticks_moveCounts ..

end

section
variable (s : State) (adc : Readings) (sampling : Nat)

theorem State.expiryStart_scu :
    (s.expiryStart adc sampling).scu = { s.scu with timeUs := s.usOf s.scu.nextExpiry } := by
  rw [State.expiryStart_eq]

theorem State.expiryStart_fxe : (s.expiryStart adc sampling).fxe = s.fxe := by rw [State.expiryStart_eq]

theorem State.expiryStart_pbu : (s.expiryStart adc sampling).pbu = s.pbu := by rw [State.expiryStart_eq]

theorem State.expiryStart_tku : (s.expiryStart adc sampling).tku = s.tku := by rw [State.expiryStart_eq]

theorem State.expiryStart_ims : (s.expiryStart adc sampling).ims = s.ims := by rw [State.expiryStart_eq]

theorem State.expiryStart_sli : (s.expiryStart adc sampling).sli = s.sli := by rw [State.expiryStart_eq]

theorem State.expiryStart_fixture? (i : Fin 128) : (s.expiryStart adc sampling).fixture? i = s.fixture? i :=
  State.fixture?_congr (congrArg Fxe.fixtures (s.expiryStart_fxe adc sampling)) i

theorem State.expiryStart_timelineGives : (s.expiryStart adc sampling).timelineGives = s.timelineGives :=
  State.timelineGives_congr (congrArg Pbu.cues (s.expiryStart_pbu adc sampling))
    (congrArg Fxe.profiles (s.expiryStart_fxe adc sampling))

theorem State.passStart_sku : (s.passStart adc sampling).sku = (s.expiryStart adc sampling).sku := by
  rw [State.passStart, State.startPass_sku, State.expire_sku]

theorem State.passStart_lnu : (s.passStart adc sampling).lnu = s.lnu := by
  rw [State.passStart, State.startPass_lnu, State.expire_lnu, State.expiryStart_eq]

/-- The pass begins with the new times and with what is left of the sampling. -/
theorem State.passStart_fxe :
    (s.passStart adc sampling).fxe = { s.fxe with
      fixtures := (s.passStart adc sampling).fxe.fixtures
      pass := some ⟨s.scu.nextExpiry, (s.passStart adc sampling).scu.showTime, (s.passStart adc sampling).scu.period, 0,
        s.expirySampling adc sampling⟩ } := by
  rw [State.passStart, State.startPass_fxe, State.startPass_scu, State.expire_fxe, State.expiryStart_fxe]

/-- A pass has no fixture to evaluate exactly when none is defined at its expiry. -/
theorem State.passStart_fixture?_eq_none_iff (i : Fin 128) :
    (s.passStart adc sampling).fixture? i = none ↔ s.fixture? i = none := by
  have hstarted : (s.passStart adc sampling).fixture? i =
      ((s.expiryStart adc sampling).expire s.scu.nextExpiry).fixture? i :=
    State.fixture?_congr (by rw [State.passStart, State.startPass_fxe]) i
  rw [hstarted, State.expire_fixture?_eq_none_iff, State.expiryStart_fixture?]

variable {s}

theorem State.expired_of_fixture (h : ¬∀ i, s.fixture? i = none) : s.expired adc sampling = s.passStart adc sampling := by
  have hsome : ¬∀ i, (s.passStart adc sampling).fixture? i = none := by
    simpa only [State.passStart_fixture?_eq_none_iff] using h
  rw [State.expired, State.completeEmptyPass_eq, if_neg hsome]

theorem State.expired_of_none (h : ∀ i, s.fixture? i = none) :
    s.expired adc sampling =
      (((s.passStart adc sampling).met (s.expirySampling adc sampling)).swapImages).setPass none := by
  have hnone : ∀ i, (s.passStart adc sampling).fixture? i = none := fun i =>
    (State.passStart_fixture?_eq_none_iff s adc sampling i).mpr (h i)
  have settled : ∀ k, ((s.expiryStart adc sampling).expire s.scu.nextExpiry).trackSettled s.scu.nextExpiry k := by
    rw [State.expire_eq]
    refine State.updateMemberless_settles _ fun i => ?_
    have hkept := State.updateMemberless_fixture? s.scu.nextExpiry ((s.expiryStart adc sampling).advancedStep.reportForward false
      ((s.expiryStart adc sampling).nextShowTime (s.expiryStart adc sampling).scu.period)) i
    rw [← hkept, ← State.expire_eq, State.expire_fixture?_eq_none_iff, State.expiryStart_fixture?]
    exact h i
  rw [State.expired, State.completeEmptyPass_eq, if_pos hnone, State.passStart]
  exact State.completePass_startPass settled _

variable (s)

/-! ### The blocks after an expiry, whether or not its pass completes at once -/

theorem State.expired_scu :
    (s.expired adc sampling).scu = { s.scu with
      timeUs := s.usOf s.scu.nextExpiry, period := s.scu.waiting.getD s.scu.period, waiting := none
      nextExpiry := s.scu.nextExpiry + BitVec.ofNat 32 (s.scu.waiting.getD s.scu.period)
      showTime := s.nextShowTime s.scu.period, lock := s.scu.lock.withSlip none } := by
  rw [State.expired, State.completeEmptyPass_scu, State.passStart, State.startPass_scu, State.expire_scu]
  simp only [State.nextShowTime, State.expiryStart_scu]

theorem State.expired_pbu : (s.expired adc sampling).pbu = { s.pbu with cursor := (s.expired adc sampling).pbu.cursor } := by
  rw [State.expired, State.completeEmptyPass_pbu, State.passStart, State.startPass_pbu, State.expire_pbu,
    State.expiryStart_pbu]

theorem State.expired_fxe :
    (s.expired adc sampling).fxe =
      { (s.passStart adc sampling).fxe with pass := (s.expired adc sampling).fxe.pass } := by
  by_cases h : ∀ i, s.fixture? i = none
  · rw [State.expired_of_none adc sampling h, State.setPass_fxe, State.swapImages_fxe, State.met_fxe]
  · rw [State.expired_of_fixture adc sampling h]

theorem State.expired_fixtures :
    (s.expired adc sampling).fxe.fixtures = ((s.expiryStart adc sampling).expire s.scu.nextExpiry).fxe.fixtures := by
  rw [State.expired_fxe, State.passStart, State.startPass_fxe]

theorem State.expired_tku :
    (s.expired adc sampling).tku = ((s.expiryStart adc sampling).expire s.scu.nextExpiry).tku := by
  by_cases h : ∀ i, s.fixture? i = none
  · rw [State.expired_of_none adc sampling h, State.setPass_tku, State.swapImages_tku, State.met_tku, State.passStart,
      State.startPass_tku]
  · rw [State.expired_of_fixture adc sampling h, State.passStart, State.startPass_tku]

theorem State.expired_inputs : (s.expired adc sampling).sku.inputs = adc := by
  have hstart : (s.passStart adc sampling).sku.inputs = adc := by
    rw [State.passStart_sku, State.expiryStart_inputs]
  by_cases h : ∀ i, s.fixture? i = none
  · rw [State.expired_of_none adc sampling h, State.setPass_sku, State.swapImages_sku, State.met_inputs, hstart]
  · rw [State.expired_of_fixture adc sampling h, hstart]

theorem State.expired_moveCounts :
    (s.expired adc sampling).moveCounts = (s.expiryStart adc sampling).slipTold.moveCounts := by
  have hstart : (s.passStart adc sampling).moveCounts = (s.expiryStart adc sampling).slipTold.moveCounts := by
    rw [← State.expire_moveCounts _ s.scu.nextExpiry]
    exact State.moveCounts_of_rqd (by rw [State.passStart, State.startPass_rqd])
  rw [← hstart]
  by_cases h : ∀ i, s.fixture? i = none
  · have hmet := (s.passStart adc sampling).met_moveCounts (s.expirySampling adc sampling)
    rw [State.expired_of_none adc sampling h, ← hmet]
    exact State.moveCounts_of_rqd (by rw [State.setPass_rqd, State.swapImages_rqd])
  · rw [State.expired_of_fixture adc sampling h]

/-- The counters of an expiry: those before it, with a slip used up counted. -/
theorem State.expired_slips :
    (s.expired adc sampling).rqd.stats.skips =
        s.rqd.stats.skips + (if s.scu.running ∧ s.scu.lock.slip.any Slip.skip then 1 else 0) ∧
      (s.expired adc sampling).rqd.stats.repeats =
        s.rqd.stats.repeats + (if s.scu.running ∧ s.scu.lock.slip.any (fun x => !x.skip) then 1 else 0) := by
  have hcounts := s.expired_moveCounts adc sampling
  have hstart := s.expiryStart_moveCounts adc sampling
  rw [State.slipTold_moveCounts, State.expiryStart_scu] at hcounts
  simp only [State.moveCounts, Prod.mk.injEq] at hcounts hstart
  obtain ⟨hskips, hrepeats, -⟩ := hcounts
  obtain ⟨hskips', hrepeats', -⟩ := hstart
  rw [hskips, hrepeats, hskips', hrepeats']
  exact ⟨rfl, rfl⟩

theorem State.passStart_sticks :
    (s.passStart adc sampling).sku.sticks =
      if sampling = 0 then (s.sampleSticks adc s.scu.period).sku.sticks else s.sku.sticks := by
  rw [State.passStart_sku, State.expiryStart_sticks]

variable {s}

/-- With no fixture defined the pass is over, with its sampling and its image swap. -/
theorem State.expired_pass_of_none (h : ∀ i, s.fixture? i = none) :
    (s.expired adc sampling).fxe.pass = none ∧
      (s.expired adc sampling).lnu = s.lnu.map (fun l => { l with latest := l.next }) ∧
      (s.expired adc sampling).sku.sticks = (s.sampleSticks adc s.scu.period).sku.sticks := by
  have hsticks := s.passStart_sticks adc sampling
  rw [State.expired_of_none adc sampling h, State.setPass_fxe, State.setPass_lnu, State.setPass_sku, State.swapImages_lnu,
    State.swapImages_sku, State.met_lnu, State.passStart_lnu, State.expirySampling]
  refine ⟨rfl, rfl, ?_⟩
  split
  · next hn =>
    rw [if_pos hn] at hsticks
    rw [State.met_none, hsticks]
  · next hn =>
    rw [if_neg hn] at hsticks
    rw [State.met_some]
    exact State.sampleSticks_sticks_congr _ _ hsticks

/-- With a fixture defined the pass has begun. -/
theorem State.expired_pass_of_fixture (h : ¬∀ i, s.fixture? i = none) :
    (s.expired adc sampling).fxe.pass = some
        { localTime := s.scu.nextExpiry, showTime := (s.expired adc sampling).scu.showTime
          period := (s.expired adc sampling).scu.period, nextFixture := 0
          sampling := s.expirySampling adc sampling } ∧
      (s.expired adc sampling).lnu = s.lnu ∧
      (s.expired adc sampling).sku.sticks =
        if sampling = 0 then (s.sampleSticks adc s.scu.period).sku.sticks else s.sku.sticks := by
  rw [State.expired_of_fixture adc sampling h, State.passStart_lnu, State.passStart_sticks, State.passStart_fxe]
  exact ⟨rfl, rfl, rfl⟩

theorem State.expiryStart_timelineOk (h : s.timelineOk) : (s.expiryStart adc sampling).timelineOk := by
  unfold State.timelineOk
  rw [State.expiryStart_scu, State.expiryStart_pbu]
  exact h

theorem State.expiryStart_nextShowTime (s : State) :
    (s.expiryStart adc sampling).nextShowTime (s.expiryStart adc sampling).scu.period = s.nextShowTime s.scu.period := by
  simp only [State.nextShowTime, State.expiryStart_scu]

theorem State.expiryStart_passed (s : State) (time : Nat) :
    (s.expiryStart adc sampling).entriesPassed time = s.entriesPassed time := by
  unfold State.entriesPassed
  rw [State.expiryStart_scu, State.expiryStart_pbu]

/-- The fixtures after an expiry. -/
theorem State.expired_fixture? (h : s.timelineOk) (i : Fin 128) :
    (s.expired adc sampling).fixture? i = (s.fixture? i).map (s.timelineGives
      (s.entriesPassed (s.nextShowTime s.scu.period)) (s.nextShowTime s.scu.period) false i) := by
  rw [State.fixture?_congr (s.expired_fixtures adc sampling), State.expire_fixture? _ (State.expiryStart_timelineOk adc sampling h),
    State.expiryStart_passed, State.expiryStart_nextShowTime, State.expiryStart_fixture?, State.expiryStart_timelineGives]

/-- The tracks and the notices after an expiry, from a state `fired` in which the slip and the entries passed have been told
and the cues have fired. -/
theorem State.expired_tracked (h : s.timelineOk) {sampled fired : State} (hpbu : sampled.pbu = s.pbu)
    (hscu : sampled.scu = { s.scu with timeUs := s.usOf s.scu.nextExpiry })
    (hsampled : sampled.rqd = (s.expiryStart adc sampling).rqd) (htku : fired.tku = s.tku)
    (hrqd : fired.rqd = (sampled.slipTold.missed (s.entriesPassed (s.nextShowTime s.scu.period))).rqd)
    (hfix : fired.fxe.fixtures = (s.expired adc sampling).fxe.fixtures)
    (htime : fired.scu.timeUs = s.usOf s.scu.nextExpiry) :
    ((s.expiryStart adc sampling).expire s.scu.nextExpiry).trackView = (fired.updateMemberless s.scu.nextExpiry).trackView := by
  have hstartscu := s.expiryStart_scu adc sampling
  refine State.expire_trackView s.scu.nextExpiry (State.expiryStart_timelineOk adc sampling h) ?_ ?_ ?_ ?_
  · rw [htku, State.expiryStart_tku]
  · rw [hrqd, State.expiryStart_nextShowTime, State.expiryStart_passed]
    refine State.missed_rqd_congr _ ?_ ?_ ?_
    · rw [State.slipTold_eq, State.slipTold_eq (s.expiryStart adc sampling), hpbu, State.expiryStart_pbu]
    · exact State.slipTold_rqd_congr hsampled (by rw [hscu, hstartscu]) (by rw [hscu, hstartscu]) (by rw [hscu, hstartscu])
    · rw [State.slipTold_eq, State.slipTold_eq (s.expiryStart adc sampling), hscu, hstartscu]
  · rw [hfix, State.expired_fixtures]
  · rw [htime, hstartscu]

/-- The notices and counters after an expiry; a pass that finds no fixture takes its sampling after the tracks. -/
theorem State.expired_rqd {w : State} [Decidable (∀ i : Fin 128, s.fixture? i = none)]
    (hview : ((s.expiryStart adc sampling).expire s.scu.nextExpiry).trackView = w.trackView)
    (hsticks : sampling ≠ 0 → w.sku.sticks = s.sku.sticks) :
    (s.expired adc sampling).rqd =
      if (∀ i : Fin 128, s.fixture? i = none) ∧ sampling ≠ 0 then (w.sampleSticks adc s.scu.period).rqd else w.rqd := by
  simp only [State.trackView, Prod.mk.injEq] at hview
  obtain ⟨-, hrqd, -, htime⟩ := hview
  by_cases h : ∀ i, s.fixture? i = none
  · rw [State.expired_of_none adc sampling h, State.setPass_rqd, State.swapImages_rqd, State.expirySampling]
    by_cases hn : sampling = 0
    · rw [if_pos hn, if_neg (fun hboth => hboth.2 hn), State.met_none, State.passStart, State.startPass_rqd, hrqd]
    · rw [if_neg hn, if_pos ⟨h, hn⟩, State.met_some]
      refine State.sampleSticks_rqd_congr _ _ ?_ ?_ ?_
      · rw [State.passStart_sticks, if_neg hn, hsticks hn]
      · rw [State.passStart, State.startPass_rqd, hrqd]
      · rw [State.passStart, State.startPass_scu, htime]
  · rw [State.expired_of_fixture adc sampling h, if_neg (fun hboth => h hboth.1), State.passStart, State.startPass_rqd, hrqd]

end

/-- A completed pass is completed once. -/
theorem State.finishPass_finishPass (s : State) : s.finishPass.finishPass = s.finishPass := by
  refine State.finishPass_of_no_pass ?_
  rw [State.finishPass, State.completePass]
  split
  · assumption
  · rfl

/-- Settles O43, block by block: a pass that still runs is completed first, and then the SCU, the tracks and the pass. -/
theorem stepExpiryAdvancesShow : Obligations.StepExpiryAdvancesShow := by
  refine ⟨fun s t adc sampling ht => ?_, fun s adc sampling hp => ⟨s.expired adc sampling, exec_stepExpiry adc sampling hp,
    ?_, ?_, s.expired_pbu adc sampling, fun h => ?_, ?_, fun h => ?_, s.expired_inputs adc sampling, ?_, ?_,
    s.expired_slips adc sampling⟩⟩
  · cases ht
    simp only [exec, execStepExpiry, State.finishPass_finishPass]
  · rw [State.expired_scu]
    rfl
  · split
    · next hnone => exact State.expired_pass_of_none adc sampling hnone
    · next hsome => exact State.expired_pass_of_fixture adc sampling hsome
  · exact timelineOk_clockInvariant.stepExpiry adc sampling h (exec_stepExpiry adc sampling hp)
  · rw [State.expired_fxe, State.passStart_fxe]
  · have hshow : (s.expired adc sampling).scu.showTime = s.nextShowTime s.scu.period := by rw [State.expired_scu]
    rw [hshow]
    intro passed now sampled slipped fired tracked
    have hscu : sampled.scu = now.scu := by
      simp only [sampled]
      split <;> simp
    have hpbu : sampled.pbu = s.pbu := by
      simp only [sampled, now]
      split <;> simp
    have htku : sampled.tku = s.tku := by
      simp only [sampled, now]
      split <;> simp
    have hslipped : slipped = sampled.slipTold := by
      simp only [slipped, State.slipTold, hscu, now] <;> rfl
    have hfired : fired = { sampled with
        fxe := { s.fxe with fixtures := (s.expired adc sampling).fxe.fixtures }
        rqd := (sampled.slipTold.missed passed).rqd } := by
      simp only [fired, hslipped]
      rw [State.missed_keeps, State.slipTold_eq]
    have htracked : tracked = fired.updateMemberless s.scu.nextExpiry := (State.updateMemberless_eq_foldl ..).symm
    have hview := State.expired_tracked adc sampling h hpbu hscu (s.expiryStart_rqd adc sampling).symm (fired := fired)
      (by rw [hfired]; exact htku) (by rw [hfired]) (by rw [hfired]) (by rw [hfired, hscu])
    rw [htracked]
    refine ⟨State.expired_fixture? adc sampling h, ?_, State.expired_rqd adc sampling hview fun hn => ?_⟩
    · rw [State.expired_tku]
      simp only [State.trackView, Prod.mk.injEq] at hview
      exact hview.1
    · rw [State.updateMemberless_sku, hfired]
      simp only [sampled, if_neg hn, now]
  · rw [State.expired, State.completeEmptyPass_ims, State.passStart, State.startPass_ims, State.expire_ims, State.expiryStart_ims]
  · rw [State.expired, State.completeEmptyPass_sli, State.passStart, State.startPass_sli, State.expire_sli, State.expiryStart_sli]

end Sys2Proof.Machine

/-! ## Tracks in order -/

namespace Sys2Proof.Machine

/-! ### Due times (R145) -/

/-- An interval of the message range reaches a later due time. -/
theorem since_laterBy_pos (t : LocalTime) {n : Nat} (hpos : 1 ≤ n) (hle : n ≤ 10000) : 0 < since (laterBy t n) t := by
  have hdiff : since (laterBy t n) t = (BitVec.ofNat 32 n).toInt := by
    rw [since, laterBy, BitVec.add_comm, BitVec.add_sub_cancel]
  rw [hdiff, BitVec.toInt_eq_toNat_of_lt] <;> simp only [BitVec.toNat_ofNat] <;> omega

/-- The due time of the last entry of a queue, or the time before it where there is none. -/
def lastDue (after : LocalTime) (l : List TrackEntry) : LocalTime := (l.getLast?.map TrackEntry.due).getD after

theorem lastDue_cons (after : LocalTime) (e : TrackEntry) (l : List TrackEntry) :
    lastDue after (e :: l) = lastDue e.due l := by
  unfold lastDue
  rw [List.getLast?_cons]
  cases l.getLast? <;> rfl

/-- Where a queue is not empty, the time before it does not matter. -/
theorem lastDue_of_ne_nil {l : List TrackEntry} (h : l ≠ []) (a b : LocalTime) : lastDue a l = lastDue b l := by
  cases l with
  | nil => exact absurd rfl h
  | cons e l => rw [lastDue_cons, lastDue_cons]

/-- Two queues one after another rise when the first rises, and the second from the last due time of the first on. -/
theorem dueTimesRise_append (after : LocalTime) (l m : List TrackEntry) :
    dueTimesRise after (l ++ m) ↔ dueTimesRise after l ∧ dueTimesRise (lastDue after l) m := by
  induction l generalizing after with
  | nil => exact (and_iff_right trivial).symm
  | cons e l ih => rw [List.cons_append, dueTimesRise, dueTimesRise, ih, lastDue_cons, and_assoc]

/-- The due times that accepted entries are given rise. -/
theorem giveDueTimes_rise (after : LocalTime) {entries : List SentEntry}
    (h : ∀ e ∈ entries, 1 ≤ e.interval ∧ e.interval ≤ 10000) : dueTimesRise after (giveDueTimes after entries) := by
  induction entries generalizing after with
  | nil => trivial
  | cons e rest ih =>
    obtain ⟨⟨hpos, hle⟩, hrest⟩ := List.forall_mem_cons.mp h
    exact ⟨since_laterBy_pos after hpos hle, ih _ hrest⟩

theorem giveDueTimes_length (after : LocalTime) (entries : List SentEntry) :
    (giveDueTimes after entries).length = entries.length := by
  induction entries generalizing after with
  | nil => rfl
  | cons e rest ih => rw [giveDueTimes, List.length_cons, ih, List.length_cons]

theorem sentEntries_length (n : Nat) (b : List Byte) : (sentEntries n b).length = n := by
  induction n generalizing b with
  | zero => rfl
  | succ n ih => rw [sentEntries, List.length_cons, ih]

/-! ### One track (R141) -/

namespace Track.ok

variable {k : Track}

/-- A track with an empty queue that does not run is in order. -/
theorem of_empty (hqueue : k.queue = []) (hstate : k.state ≠ .running) : k.ok := by
  refine ⟨by rw [hqueue]; exact Nat.zero_le 32, ⟨fun h => absurd h hstate, fun h => absurd hqueue h⟩, fun t _ => ?_,
    fun _ => hqueue⟩
  rw [hqueue]
  trivial

/-- A running track is in order when its entries fit and rise from its from-time on. -/
theorem of_running {a : LocalTime} (hstate : k.state = .running) (hqueue : k.queue ≠ []) (hfits : k.queue.length ≤ 32)
    (htime : k.fromTime = some a) (hrise : dueTimesRise a k.queue) : k.ok := by
  refine ⟨hfits, iff_of_true hstate hqueue, fun t ht => ?_, fun hnone => ?_⟩
  · rw [htime] at ht
    cases ht
    exact hrise
  · rw [htime] at hnone
    cases hnone

/-- A track in order whose queue holds an entry runs, from a from-time on that its entries rise from. -/
theorem running_of_ne_nil (h : k.ok) (hqueue : k.queue ≠ []) :
    k.state = .running ∧ ∃ a, k.fromTime = some a ∧ dueTimesRise a k.queue := by
  obtain ⟨-, hstate, hrise, hnone⟩ := h
  cases htime : k.fromTime with
  | none => exact absurd (hnone htime) hqueue
  | some a => exact ⟨hstate.mpr hqueue, a, rfl, hrise a htime⟩

/-- An update passes the entries due, and leaves a track that has run dry STARVED or ENDED (R147). -/
theorem updateTo (h : k.ok) (t : LocalTime) : (k.updateTo t).1.ok := by
  have hwhole := List.takeWhile_append_dropWhile (p := TrackEntry.dueBy t) (l := k.queue)
  cases he : (k.queue.takeWhile (TrackEntry.dueBy t)).getLast? with
  | none =>
    rw [Track.updateTo, passDue_eq, he]
    exact h
  | some e =>
    rw [Track.updateTo_of_due he]
    split
    · next hleft =>
      have hqueue : k.queue ≠ [] := fun hnil => hleft (by rw [hnil]; rfl)
      obtain ⟨hstate, a, -, hrise⟩ := h.running_of_ne_nil hqueue
      rw [← hwhole, dueTimesRise_append, lastDue, he] at hrise
      exact of_running (k := k.passed t e) hstate hleft ((List.length_dropWhile_le ..).trans h.1) rfl hrise.2
    · next hleft =>
      split <;> exact of_empty (not_not.mp hleft) nofun

/-- Accepted entries go on from the last due time of a running track, and from the acceptance on otherwise (R145). -/
theorem accept (h : k.ok) (a : LocalTime) {entries : List SentEntry} (hsome : entries ≠ [])
    (hintervals : ∀ e ∈ entries, 1 ≤ e.interval ∧ e.interval ≤ 10000) (hroom : k.queue.length + entries.length ≤ 32) :
    (k.accept a entries).1.ok := by
  have hgiven (b : LocalTime) : k.queue ++ giveDueTimes b entries ≠ [] := by
    refine List.append_ne_nil_of_right_ne_nil _ fun hnil => hsome ?_
    rw [← List.length_eq_zero_iff, ← giveDueTimes_length b, hnil, List.length_nil]
  have hfits (b : LocalTime) : (k.queue ++ giveDueTimes b entries).length ≤ 32 := by
    rwa [List.length_append, giveDueTimes_length]
  unfold Track.accept
  split
  · next hstate =>
    have hqueue : k.queue ≠ [] := h.2.1.mp hstate
    obtain ⟨-, b, htime, hrise⟩ := h.running_of_ne_nil hqueue
    refine of_running hstate (hgiven _) (hfits _) htime ((dueTimesRise_append ..).mpr ⟨hrise, ?_⟩)
    rw [lastDue_of_ne_nil hqueue b a]
    exact giveDueTimes_rise _ hintervals
  · next hstate =>
    have hqueue : k.queue = [] := by_contra fun hne => hstate (h.2.1.mpr hne)
    refine of_running rfl (hgiven a) (hfits a) rfl ?_
    dsimp only
    rw [hqueue]
    exact giveDueTimes_rise a hintervals

end Track.ok

/-- The end of an evaluation leaves the tracks alone. -/
theorem State.stored_tku (s : State) (i : Fin 128) (f g : Fixture) : (s.stored i f g).tku = s.tku := by
  simp [State.stored]

theorem State.completePass_of_no_pass {s : State} (hp : s.fxe.pass = none) : s.completePass = s := by
  rw [State.completePass, hp]

/-- The completion of a pass meets its sampling, updates the tracks left and swaps the images (R35, R147). -/
theorem State.completePass_of_pass {s : State} {p : Pass} (hp : s.fxe.pass = some p) :
    s.completePass = (((s.met p.sampling).updateRemaining p.localTime).swapImages).setPass none := by
  rw [State.completePass, hp]
  dsimp only
  cases p.sampling with
  | none => rw [State.met_none]
  | some x => rw [State.met_some]

/-! ### The four tracks under the operations that change them -/

namespace State.tracksOk

variable {s : State}

theorem of_tku {t : State} (htku : t.tku = s.tku) (h : s.tracksOk) : t.tracksOk := by
  unfold State.tracksOk
  rwa [htku]

/-- The resets leave every track UNBOUND (R141). -/
theorem of_reset {t : State} (htku : t.tku = Vector.replicate 4 Track.unbound) : t.tracksOk := by
  intro k
  rw [htku, Fin.getElem_fin, Vector.getElem_replicate]
  exact Track.ok.of_empty rfl nofun

theorem set (h : s.tracksOk) {t : State} {k : Fin 4} {track : Track} (htku : t.tku = s.tku.set k track)
    (htrack : track.ok) : t.tracksOk := by
  intro j
  rw [htku, Fin.getElem_fin, Vector.getElem_set]
  split
  · exact htrack
  · exact h j

theorem setTrack (h : s.tracksOk) (k : Fin 4) {track : Track} (htrack : track.ok) : (s.setTrack k track).tracksOk :=
  h.set (s.setTrack_tku k track) htrack

theorem updateTrack (h : s.tracksOk) (k : Fin 4) (t : LocalTime) : (s.updateTrack k t).tracksOk := by
  have htku := s.updateTrack_tku k t
  split at htku
  · exact of_tku htku h
  · exact h.set htku ((h k).updateTo t)

theorem updateTrackOnce (h : s.tracksOk) (k : Fin 4) (t : LocalTime) : (s.updateTrackOnce k t).tracksOk := by
  unfold State.updateTrackOnce
  split
  · exact h
  · exact h.updateTrack k t

theorem updateMemberless (h : s.tracksOk) (t : LocalTime) : (s.updateMemberless t).tracksOk := by
  refine List.foldlRecOn _ _ h fun u hu k _ => ?_
  split
  · exact hu.updateTrack k t
  · exact hu

theorem updateRemaining (h : s.tracksOk) (t : LocalTime) : (s.updateRemaining t).tracksOk :=
  List.foldlRecOn _ _ h fun _ hu k _ => hu.updateTrackOnce k t

/-- A released track is UNBOUND (R148). -/
theorem releaseTrack (h : s.tracksOk) (k : Fin 4) : (s.releaseTrack k).tracksOk :=
  setTrack (of_tku (State.modifyFixtures_tku ..) h) k (Track.ok.of_empty rfl nofun)

/-- A bound track is WAITING with an empty queue (R143). -/
theorem bindTrack (h : s.tracksOk) (k : Fin 4) (g : Nat) : (s.bindTrack k g).1.tracksOk := by
  have released : (if s.tku[k].state = .unbound then s else s.releaseTrack k).tracksOk := by
    split
    · exact h
    · exact h.releaseTrack k
  exact setTrack (of_tku (State.modifyFixtures_tku ..) released) k (Track.ok.of_empty rfl nofun)

theorem appendPoints (h : s.tracksOk) (k : Fin 4) {entries : List SentEntry} (hsome : entries ≠ [])
    (hintervals : ∀ e ∈ entries, 1 ≤ e.interval ∧ e.interval ≤ 10000)
    (hroom : s.tku[k].queue.length + entries.length ≤ 32) : (s.appendPoints k entries).1.tracksOk := by
  refine h.set (k := k) ?_ ((h k).accept s.localClock hsome hintervals hroom)
  unfold State.appendPoints
  dsimp only
  split <;> rfl

/-! ### The pass and the step expiry -/

theorem asked (h : s.tracksOk) (p : Pass) (f : Fixture) : (s.asked p f).tracksOk := by
  unfold State.asked
  split
  · exact h.updateTrackOnce _ _
  · exact h

theorem evaluate (h : s.tracksOk) (p : Pass) (i : Fin 128) : (s.evaluate p i).tracksOk := by
  unfold State.evaluate
  split
  · rw [State.evaluateDefined_eq]
    exact of_tku (State.stored_tku ..) (h.asked p _)
  · exact h

theorem evaluateNext (h : s.tracksOk) (p : Pass) : (s.evaluateNext p).tracksOk := by
  unfold State.evaluateNext
  split
  · exact h
  · next i _ =>
    have met : (s.meetSampling p i.val).1.tracksOk := by
      unfold State.meetSampling
      repeat' split
      all_goals exact of_tku (s := s) (by simp) h
    exact of_tku (State.setPass_tku ..) (met.evaluate _ i)

theorem evaluateRest (h : s.tracksOk) (n : Nat) : (s.evaluateRest n).tracksOk := by
  induction n generalizing s with
  | zero => exact h
  | succ n ih =>
    unfold State.evaluateRest
    repeat' split
    · exact ih (h.evaluateNext _)
    all_goals exact h

theorem completePass (h : s.tracksOk) : s.completePass.tracksOk := by
  cases hp : s.fxe.pass with
  | none => rwa [State.completePass_of_no_pass hp]
  | some p =>
    rw [State.completePass_of_pass hp]
    have met : (s.met p.sampling).tracksOk := of_tku (s.met_tku p.sampling) h
    exact of_tku (by rw [State.setPass_tku, State.swapImages_tku]) (met.updateRemaining p.localTime)

theorem finishPass (h : s.tracksOk) : s.finishPass.tracksOk := (h.evaluateRest 128).completePass

theorem expire (h : s.tracksOk) (t : LocalTime) : (s.expire t).tracksOk :=
  updateMemberless (of_tku (s := s) (by simp) h) t

theorem expireWith (h : s.tracksOk) (t : LocalTime) (adc : Readings) (n : Nat) : (s.expireWith t adc n).tracksOk := by
  cases n with
  | zero =>
    have sampled : ((s.setInputs adc).sampleSticks adc s.scu.period).tracksOk := of_tku (s := s) (by simp) h
    exact of_tku (State.startPass_tku ..) (sampled.expire t)
  | succ n =>
    have read : (s.setInputs adc).tracksOk := of_tku (s := s) rfl h
    exact of_tku (State.startPass_tku ..) (read.expire t)

theorem completeEmptyPass (h : s.tracksOk) : s.completeEmptyPass.tracksOk := by
  unfold State.completeEmptyPass
  split
  · exact h.completePass
  · exact h

end State.tracksOk

/-! ### The service of a request -/

/-- The next state of an outcome, if it has one, has its tracks in order where `s` has. -/
def State.outcomeKeepsTracks (s : State) (o : Host.Outcome State Fault Refusal) : Prop :=
  ∀ t, o = .next t → s.tracksOk → t.tracksOk

theorem State.keepsTracks_next {s t : State} (h : s.tracksOk → t.tracksOk) : s.outcomeKeepsTracks (.next t) := by
  rintro _ ⟨⟩
  exact h

theorem State.keepsTracks_next_of_tku {s t : State} (h : t.tku = s.tku) : s.outcomeKeepsTracks (.next t) :=
  State.keepsTracks_next (State.tracksOk.of_tku h)

theorem State.serve_tracksOk {kind : Byte} {q : Request} {body : State → State × Answer}
    (hbody : ∀ u, u.tracksOk → (body u).1.tracksOk) {s : State} (h : s.tracksOk) : (s.serve kind q body).tracksOk := by
  have presented : (s.present { kind := kind, request := q }).tracksOk := State.tracksOk.of_tku (by simp) h
  unfold State.serve
  dsimp only
  split
  · exact State.tracksOk.of_tku (State.complete_tku ..) (hbody _ presented)
  · exact presented

section
variable {kind : Byte} {q : Request} {checks : State → List (Bool × Status)} {effect : State → State × Answer}

/-- A request keeps the tracks in order when its effect, accepted by its checks, does. -/
theorem State.keepsTracks_request (heffect : ∀ u, firstFailing (checks u) = none → u.tracksOk → (effect u).1.tracksOk)
    (s : State) : s.outcomeKeepsTracks (.next (s.serve kind q (changeBody checks effect))) := by
  refine State.keepsTracks_next (State.serve_tracksOk fun u hu => ?_)
  cases hc : firstFailing (checks u) with
  | none =>
    rw [changeBody_accepted hc]
    exact heffect u hc hu
  | some st => rwa [changeBody_refused hc]

theorem State.keepsTracks_request_of_tku (h : ∀ u, (effect u).1.tku = u.tku) (s : State) :
    s.outcomeKeepsTracks (.next (s.serve kind q (changeBody checks effect))) :=
  State.keepsTracks_request (fun u _ => State.tracksOk.of_tku (h u)) s

end

/-! ### Effects that leave the tracks alone -/

section
variable (s : State)

theorem State.pollNotices_tku (broadcast : Bool) : (s.pollNotices broadcast).1.tku = s.tku := by
  unfold State.pollNotices
  split <;> rfl

theorem State.takeStats_tku (clear : Bool) : (s.takeStats clear).1.tku = s.tku := by
  unfold State.takeStats
  dsimp only
  split <;> rfl

theorem State.setFixtureSlots_tku (i : Fin 128) (o : Nat) (values : List Byte) :
    (s.setFixtureSlots i o values).tku = s.tku := by
  unfold State.setFixtureSlots
  split <;> rfl

theorem State.centreStick_tku (i : Fin 2) (r : Readings) : (s.centreStick i r).1.tku = s.tku := by
  unfold State.centreStick
  dsimp only
  split <;> simp

theorem State.setLine_tku (l : Fin 8) (p : List Byte) : (s.setLine l p).1.tku = s.tku := by
  unfold State.setLine
  dsimp only
  split <;> simp

end

/-! ### The tracks after a reset (R141) -/

section
variable (s : State)

theorem State.startUp_tku (straps : BitVec 4) : (s.startUp straps).tku = Vector.replicate 4 Track.unbound := by
  unfold State.startUp
  dsimp only
  split <;> simp [State.loadShow]

theorem State.restart_tku : s.restart.tku = Vector.replicate 4 Track.unbound := by simp [State.restart]

theorem State.clearShow_tku : s.clearShow.tku = Vector.replicate 4 Track.unbound := by
  simp [State.clearShow, State.emptyShow]

end

/-! ### The commands of several cases -/

/-- The checks of an accepted TRACK-POINTS make its entries fit the queue and their due times rise (R144). -/
theorem execTrackPoints_tracks (q : Request) (s : State) : s.outcomeKeepsTracks (execTrackPoints q s) := by
  refine State.keepsTracks_request (fun u hc hu => ?_) s
  rw [firstFailing_eq_none_iff] at hc
  simp only [List.forall_mem_cons, decide_eq_true_eq, List.all_eq_true, Bool.and_eq_true] at hc
  obtain ⟨-, -, ⟨hsome, -⟩, -, hintervals, -, hroom, -⟩ := hc
  refine hu.appendPoints _ (fun hnil => ?_) (fun e he => (hintervals e he).1) ?_
  · have hcount := sentEntries_length (u8 q.payload 1) (q.payload.drop 2)
    rw [hnil, List.length_nil] at hcount
    omega
  · rwa [sentEntries_length]

theorem execRestart_tracks (q : Request) (s : State) : s.outcomeKeepsTracks (execRestart q s) := by
  refine State.keepsTracks_next fun h => ?_
  have presented : (s.present { kind := 0x05, request := q }).tracksOk := State.tracksOk.of_tku (by simp) h
  unfold State.serveRestart
  dsimp only
  split
  · split
    · exact State.tracksOk.of_tku (State.complete_tku ..) presented
    · exact State.tracksOk.of_reset (State.restart_tku _)
  · exact presented

theorem execClearShow_tracks (q : Request) (s : State) : s.outcomeKeepsTracks (execClearShow q s) := by
  refine State.keepsTracks_request (fun u _ _ => ?_) s
  exact State.tracksOk.of_reset (t := u.clearShow) u.clearShow_tku

theorem execUnknownKind_tracks (kind : Byte) (q : Request) (s : State) :
    s.outcomeKeepsTracks (execUnknownKind kind q s) := by
  unfold execUnknownKind
  split
  · exact State.keepsTracks_next id
  · exact State.keepsTracks_next (State.serve_tracksOk fun _ hu => hu)

theorem execFixtureEvaluation_tracks (s : State) : s.outcomeKeepsTracks (execFixtureEvaluation s) := by
  unfold execFixtureEvaluation
  split
  · exact State.keepsTracks_next fun h => h.evaluateNext _
  · exact State.keepsTracks_next id

theorem execStepExpiry_tracks (adc : Readings) (sampling : Nat) (s : State) :
    s.outcomeKeepsTracks (execStepExpiry adc sampling s) := by
  refine State.keepsTracks_next fun h => ?_
  have begun (u : Nat) : (s.finishPass.advanceTo u).tracksOk := State.tracksOk.of_tku (State.advanceTo_tku ..) h.finishPass
  exact ((begun _).expireWith _ adc sampling).completeEmptyPass

theorem execFrameAbandoned_tracks (s : State) : s.outcomeKeepsTracks (execFrameAbandoned s) := by
  unfold execFrameAbandoned
  split <;> exact State.keepsTracks_next_of_tku rfl

theorem execReplySent_tracks (s : State) : s.outcomeKeepsTracks (execReplySent s) := by
  unfold execReplySent
  split <;> exact State.keepsTracks_next_of_tku rfl

theorem execSaveCompletion_tracks (matched : Bool) (s : State) : s.outcomeKeepsTracks (execSaveCompletion matched s) := by
  unfold execSaveCompletion
  split <;> exact State.keepsTracks_next_of_tku rfl

theorem execMarkAbandoned_tracks (s : State) : s.outcomeKeepsTracks (execMarkAbandoned s) := by
  unfold execMarkAbandoned
  split <;> exact State.keepsTracks_next_of_tku (by simp)

theorem execConfirmDeadline_tracks (s : State) : s.outcomeKeepsTracks (execConfirmDeadline s) := by
  unfold execConfirmDeadline
  split <;> exact State.keepsTracks_next_of_tku (by simp)

theorem execWatchDeadline_tracks (s : State) : s.outcomeKeepsTracks (execWatchDeadline s) := by
  unfold execWatchDeadline
  split <;> exact State.keepsTracks_next_of_tku (by simp)

theorem execFrameStart_tracks (l : Fin 8) (s : State) : s.outcomeKeepsTracks (execFrameStart l s) := by
  unfold execFrameStart
  split <;> exact State.keepsTracks_next_of_tku rfl

theorem execFrameSent_tracks (l : Fin 8) (s : State) : s.outcomeKeepsTracks (execFrameSent l s) := by
  unfold execFrameSent
  split <;> exact State.keepsTracks_next_of_tku (by simp [State.endFrame])

theorem execFaultInputAsserted_tracks (l : Fin 8) (s : State) : s.outcomeKeepsTracks (execFaultInputAsserted l s) := by
  unfold execFaultInputAsserted
  dsimp only
  split <;> exact State.keepsTracks_next_of_tku (by simp)

/-! ### Every command and every step -/

theorem exec_tracks (c : Instr) (s : State) : s.outcomeKeepsTracks (exec c s) := by
  cases c with
  | powerOn straps | resetPin straps =>
    exact State.keepsTracks_next fun _ => State.tracksOk.of_reset (s.startUp_tku straps)
  | clearShow q => exact execClearShow_tracks q s
  | restart q => exact execRestart_tracks q s
  | unitQuery q | profileRead q | fixtureRead q | groupRead q | zoneRead q | fixtureQuery q | cueRead q | clockQuery q
  | timelineRead q | trackQuery q | stickQuery q | lineQuery q | lineImage q | save q | profileLoad q | profileRemove q
  | zoneSet q | clockSet q | stickSet q | stickZero q | linePin q | lineStatic q | timelineAdd q | timelineRemove q =>
    exact State.keepsTracks_request_of_tku (fun _ => rfl) s
  | aim q | tint q | level q | park q | stop q | douse q | release q =>
    exact State.keepsTracks_request_of_tku (fun u => u.changeSelected_tku q _) s
  | fixtureDefine q => exact State.keepsTracks_request_of_tku (fun u => by rw [State.defineFixture_eq]) s
  | fixtureRemove q => exact State.keepsTracks_request_of_tku (fun u => by rw [State.removeFixture_eq]) s
  | fixtureSlots q => exact State.keepsTracks_request_of_tku (fun u => u.setFixtureSlots_tku ..) s
  | groupSet q => exact State.keepsTracks_request_of_tku (fun u => by rw [State.setGroup_eq]) s
  | go q => exact State.keepsTracks_request_of_tku (fun u => Firing.walk_tku ..) s
  | cueOpen q => exact State.keepsTracks_request_of_tku (fun u => by rw [State.openCue_eq]) s
  | cuePart q =>
    refine State.keepsTracks_request_of_tku (fun u => ?_) s
    split
    · rfl
    · exact u.abortBuild_tku
  | cueDelete q => exact State.keepsTracks_request_of_tku (fun u => by rw [State.deleteCue_eq]) s
  | showTime q =>
    exact State.keepsTracks_request_of_tku (fun u => (State.setRunning_tku ..).trans (u.jumpTo_tku _)) s
  | noticePoll q => exact State.keepsTracks_request_of_tku (fun u => u.pollNotices_tku _) s
  | stats q => exact State.keepsTracks_request_of_tku (fun u => u.takeStats_tku _) s
  | trackBind q => exact State.keepsTracks_request (fun u _ hu => hu.bindTrack _ _) s
  | trackPoints q => exact execTrackPoints_tracks q s
  | trackRelease q => exact State.keepsTracks_request (fun u _ hu => hu.releaseTrack _) s
  | stickCentre q adc => exact State.keepsTracks_request_of_tku (fun u => u.centreStick_tku ..) s
  | stickSample q adc => exact State.keepsTracks_request_of_tku (fun u => by simp [State.sampleOnce]) s
  | lineSet q => exact State.keepsTracks_request_of_tku (fun u => u.setLine_tku ..) s
  | unknownKind kind q => exact execUnknownKind_tracks kind q s
  | frameReceived bytes => exact State.keepsTracks_next_of_tku (foldl_keeps State.tku _ State.linkByte_tku bytes s)
  | markReceived bytes => exact State.keepsTracks_next_of_tku (foldl_keeps State.tku _ State.syncByte_tku bytes s)
  | frameAbandoned => exact execFrameAbandoned_tracks s
  | replySent => exact execReplySent_tracks s
  | markAbandoned => exact execMarkAbandoned_tracks s
  | confirmDeadline => exact execConfirmDeadline_tracks s
  | watchDeadline => exact execWatchDeadline_tracks s
  | saveCompletion matched => exact execSaveCompletion_tracks matched s
  | frameStart line => exact execFrameStart_tracks line s
  | frameSent line => exact execFrameSent_tracks line s
  | faultInputAsserted line => exact execFaultInputAsserted_tracks line s
  | faultInputReleased line => exact State.keepsTracks_next_of_tku rfl
  | fixtureEvaluation => exact execFixtureEvaluation_tracks s
  | passCompletion => exact State.keepsTracks_next fun h => h.finishPass
  | stepExpiry adc sampling => exact execStepExpiry_tracks adc sampling s

/-- Settles O55: every command keeps the tracks in order, and time that passes leaves them alone. -/
theorem tracksStayInOrder : Obligations.TracksStayInOrder := by
  intro s t h ht
  unfold step at ht
  split at ht
  · next c rest _ => exact exec_tracks c (s.withPending rest) t ht (State.tracksOk.of_tku (s.withPending_tku rest) h)
  · unfold State.idle at ht
    dsimp only at ht
    split at ht
    · exact exec_tracks _ s t ht h
    · cases ht
      exact State.tracksOk.of_tku (State.advanceTo_tku ..) h

end Sys2Proof.Machine

/-! ## The track requests -/

namespace Sys2Proof.Machine

/-! ### Released and bound fixtures (R143, R148) -/

/-- A hold starts an aim and leaves the rest of the fixture alone. -/
theorem Fixture.holdAim_eq (t : LocalTime) (f : Fixture) :
    f.holdAim t = { f with run := { f.run with aim := (f.holdAim t).run.aim } } := by
  unfold Fixture.holdAim
  split <;> rfl

/-- A bind replaces the aim, so that a hold before it leaves no trace. -/
theorem Fixture.bindTo_holdAim (k : Fin 4) (t u : LocalTime) (f : Fixture) : (f.holdAim u).bindTo k t = f.bindTo k t := by
  rw [Fixture.holdAim_eq]
  rfl

/-- A change of the fixtures with a property, fixture by fixture. -/
theorem State.changeWhere_fixture? (s : State) (p : Fixture → Bool) (g : Fixture → Fixture) (i : Fin 128) :
    (s.modifyFixtures (s.fixturesWhere p) g).fixture? i = (s.fixture? i).map fun f => if p f then g f else f := by
  rw [State.modifyFixtures_fixture? (s.fixturesWhere p) (List.Nodup.filter _ (List.nodup_finRange 128))]
  simp only [State.fixturesWhere, List.mem_filter, List.mem_finRange, true_and]
  cases s.fixture? i with
  | none => simp
  | some f => by_cases hp : p f = true <;> simp [hp]

section
variable (s : State) (k : Fin 4)

/-- A release changes the fixtures and its track alone. -/
theorem State.releaseTrack_eq :
    s.releaseTrack k = { s with
      fxe := { s.fxe with fixtures := (s.releaseTrack k).fxe.fixtures }, tku := s.tku.set k Track.unbound } := by
  have hfxe : (s.releaseTrack k).fxe = { s.fxe with fixtures := (s.releaseTrack k).fxe.fixtures } :=
    congrArg State.fxe (State.modifyFixtures_eq (s.members k) s (Fixture.holdAim s.localClock))
  refine State.ext_blocks ?_ ?_ hfxe ?_ ?_ ?_ ?_ ?_ ?_ ?_ <;> simp [State.releaseTrack]

theorem State.releaseTrack_fixture? (i : Fin 128) :
    (s.releaseTrack k).fixture? i = (s.fixture? i).map fun f =>
      if f.run.aim.core.source = .track k then f.holdAim s.localClock else f := by
  refine (s.changeWhere_fixture? (fun f => f.run.aim.core.source == .track k) _ i).trans ?_
  simp only [beq_iff_eq]

/-! ### TRACK-BIND (R143) -/

/-- The state in which the fixtures of a bind are taken: the track has been released where it was bound. -/
def State.freed : State := if s.tku[k].state = .unbound then s else s.releaseTrack k

/-- A fixture there: a member of the bound track is held where it is. -/
def Fixture.freed (f : Fixture) : Fixture :=
  if (s.tku[k]).state ≠ .unbound ∧ f.run.aim.core.source = .track k then f.holdAim s.localClock else f

theorem State.freed_eq :
    s.freed k = { s with fxe := { s.fxe with fixtures := (s.freed k).fxe.fixtures }, tku := (s.freed k).tku } := by
  unfold State.freed
  split
  · rfl
  · rw [s.releaseTrack_eq k]

theorem State.freed_tku_set (track : Track) : (s.freed k).tku.set k track = s.tku.set k track := by
  unfold State.freed
  split
  · rfl
  · rw [s.releaseTrack_eq k]
    simp

theorem State.freed_fixture? (i : Fin 128) : (s.freed k).fixture? i = (s.fixture? i).map (Fixture.freed s k) := by
  unfold State.freed Fixture.freed
  split
  · next h => simp only [ne_eq, h, not_true_eq_false, false_and, if_false, Option.map_id']
  · next h => simp only [s.releaseTrack_fixture? k i, ne_eq, h, not_false_eq_true, true_and]

theorem Fixture.freed_groups (f : Fixture) : (f.freed s k).groups = f.groups := by
  unfold Fixture.freed
  split
  · rw [Fixture.holdAim_eq]
  · rfl

theorem Fixture.bindTo_freed (t : LocalTime) (f : Fixture) : (f.freed s k).bindTo k t = f.bindTo k t := by
  unfold Fixture.freed
  split
  · exact f.bindTo_holdAim k t _
  · rfl

/-- The release names no fixture anew for a group. -/
theorem State.freed_numberNamed (g : Nat) : (s.freed k).numberNamed (.group g) = s.numberNamed (.group g) := by
  unfold State.numberNamed
  refine List.countP_congr fun i _ => ?_
  rw [State.freed_fixture?, Option.any_map]
  cases s.fixture? i <;> simp [Selector.names, Fixture.freed_groups]

variable (g : Nat)

/-- The track a bind leaves behind: WAITING and empty, with its join list (R143, order 5). -/
def State.boundTrack : Track :=
  { Track.unbound with
    state := .waiting
    joins := ((s.freed k).expand (.group g)).map fun i => (i, ((s.freed k).fixture? i).bind Fixture.joinPoint) }

theorem State.bindTrack_eq :
    s.bindTrack k g =
      ((((s.freed k).modifyFixtures ((s.freed k).expand (.group g)) (Fixture.bindTo k s.localClock)).setTrack k
        (s.boundTrack k g)), .ok [byteOf (s.numberNamed (.group g))]) := by
  rw [← s.freed_numberNamed k g, ← State.expand_length]
  rfl

theorem State.bindTrack_tku : (s.bindTrack k g).1.tku = s.tku.set k (s.boundTrack k g) := by
  rw [State.bindTrack_eq, State.setTrack_tku, State.modifyFixtures_tku, State.freed_tku_set]

theorem State.bindTrack_frame :
    (s.bindTrack k g).1 = { s with
      fxe := { s.fxe with fixtures := (s.bindTrack k g).1.fxe.fixtures }, tku := s.tku.set k (s.boundTrack k g) } := by
  have kept {β : Type} (block : State → β) :
      block (s.freed k) = block { s with
        fxe := { s.fxe with fixtures := (s.freed k).fxe.fixtures }, tku := (s.freed k).tku } := congrArg block (s.freed_eq k)
  have hfxe : (s.bindTrack k g).1.fxe = { s.fxe with fixtures := (s.bindTrack k g).1.fxe.fixtures } := by
    have changed := congrArg State.fxe
      (State.modifyFixtures_eq ((s.freed k).expand (.group g)) (s.freed k) (Fixture.bindTo k s.localClock))
    rw [kept State.fxe] at changed
    exact changed
  refine State.ext_blocks ?_ ?_ hfxe ?_ ?_ (s.bindTrack_tku k g) ?_ ?_ ?_ ?_ <;> rw [State.bindTrack_eq]
  · simp [kept State.sli]
  · simp [kept State.rqd]
  · simp [kept State.scu]
  · simp [kept State.pbu]
  · simp [kept State.sku]
  · simp [kept State.lnu]
  · simp [kept State.ims]
  · simp [kept State.pending]

theorem State.bindTrack_fixture? (i : Fin 128) :
    (s.bindTrack k g).1.fixture? i = (s.fixture? i).map fun f =>
      if f.groups.getLsbD g then f.bindTo k s.localClock else f.freed s k := by
  rw [State.bindTrack_eq]
  refine ((s.freed k).changeNamed_fixture? (.group g) (Fixture.bindTo k s.localClock) i).trans ?_
  rw [State.freed_fixture?, Option.map_map]
  simp only [Selector.names, Function.comp_def, Fixture.freed_groups, Fixture.bindTo_freed]

end

section
variable {s : State} {q : Request} {k : Fin 4}

theorem execTrackBind_accepted {g : Fin 32} (hserving : s.serving 0x40 q) (hp : q.payload = [byteOf k.val, byteOf g.val]) :
    execTrackBind q s =
      .next ((s.bindTrack k g.val).1.answered 0x40 q (.ok [byteOf (s.numberNamed (.group g.val))])) := by
  have hk := u8_index k (by decide) hp
  have hg : u8 q.payload 1 = g.val := by
    rw [hp]
    exact (byteOf_toNat g.val).trans (by omega)
  have hlength : hasLength q 2 = true := hasLength_of_eq hp
  unfold execTrackBind
  rw [State.serve_accepted hserving (by simp [hlength, hk, hg]), ofNat_u8 hk, hg, State.bindTrack_eq]

/-! ### TRACK-RELEASE (R148) -/

theorem execTrackRelease_accepted (hserving : s.serving 0x42 q) (hp : q.payload = [byteOf k.val])
    (hbound : (s.tku[k]).state ≠ .unbound) :
    execTrackRelease q s = .next ((s.releaseTrack k).answered 0x42 q (.ok [byteOf (s.members k).length])) := by
  have hk := u8_index k (by decide) hp
  have hlength : hasLength q 1 = true := hasLength_of_eq hp
  unfold execTrackRelease
  simp only [ofNat_u8 hk]
  have passed : firstFailing [(hasLength q 1, .badLength), (decide (u8 q.payload 0 < 4), .badValue),
      (s.tku[k].state != .unbound, .noSuch)] = none := by
    simp only [hlength, decide_eq_true (hk ▸ k.isLt), bne_iff_ne.mpr hbound, firstFailing_true, firstFailing_nil]
  rw [State.serve_accepted hserving passed]

/-! ### TRACK-POINTS (R144, R145) -/

/-- A running track goes on from its last due time. -/
theorem State.appendPoints_of_running (h : (s.tku[k]).state = .running) (entries : List SentEntry) :
    s.appendPoints k entries =
      (let queue := (s.tku[k]).queue ++
        giveDueTimes (((s.tku[k]).queue.getLast?.map TrackEntry.due).getD s.localClock) entries
       ({ s with tku := s.tku.set k { s.tku[k] with queue := queue } }, .ok [byteOf queue.length, 2])) := by
  simp only [State.appendPoints, Track.accept, h]
  rfl

/-- Another track becomes RUNNING at the acceptance. -/
theorem State.appendPoints_of_not_running (h : (s.tku[k]).state ≠ .running) (entries : List SentEntry) :
    s.appendPoints k entries =
      (let queue := (s.tku[k]).queue ++ giveDueTimes s.localClock entries
       let track : Track := { s.tku[k] with queue := queue, state := .running, fromTime := some s.localClock }
       (({ s with tku := s.tku.set k track } : State).raise (.track k .running), .ok [byteOf queue.length, 2])) := by
  simp only [State.appendPoints, Track.accept, if_neg h]
  rfl

/-- Entries that fit the message and name a bound track are taken where the queue has room (R144). -/
theorem execTrackPoints_eq {entries : List SentEntry} (hserving : s.serving 0x41 q)
    (hlength : q.payload.length = 2 + 15 * u8 q.payload 1) (hk : u8 q.payload 0 = k.val) (hpos : 1 ≤ u8 q.payload 1)
    (hle : u8 q.payload 1 ≤ 15) (hsent : sentEntries (u8 q.payload 1) (q.payload.drop 2) = entries)
    (hentries : ∀ e ∈ entries, e.point.inStage ∧ 1 ≤ e.interval ∧ e.interval ≤ 10000 ∧ e.flag < 2)
    (hbound : (s.tku[k]).state ≠ .unbound) :
    execTrackPoints q s = .next (if (s.tku[k]).queue.length + entries.length ≤ 32
      then (s.appendPoints k entries).1.answered 0x41 q (s.appendPoints k entries).2
      else s.answered 0x41 q (.refuse .full)) := by
  have hcounted : hasCountedLength q 2 1 15 = true := by
    simp only [hasCountedLength, hlength, Config.maxPayload, beq_self_eq_true, Bool.and_true, Bool.and_eq_true,
      decide_eq_true_eq]
    omega
  have hindex : decide (u8 q.payload 0 < 4) = true := decide_eq_true (hk ▸ k.isLt)
  have hlen : u8 q.payload 1 = entries.length := by rw [← hsent, sentEntries_length]
  have hcount : decide (1 ≤ entries.length ∧ entries.length ≤ 15) = true := decide_eq_true (hlen ▸ ⟨hpos, hle⟩)
  have hstage : entries.all (fun e => e.point.onStage) = true :=
    List.all_eq_true.mpr fun e he => (onStage_iff _).mpr (hentries e he).1
  have hfields : entries.all (fun e => decide (1 ≤ e.interval ∧ e.interval ≤ 10000) && decide (e.flag < 2)) = true := by
    refine List.all_eq_true.mpr fun e he => ?_
    obtain ⟨-, hlow, hhigh, hflag⟩ := hentries e he
    rw [decide_eq_true ⟨hlow, hhigh⟩, decide_eq_true hflag, Bool.and_self]
  have hstate : (s.tku[k].state != .unbound) = true := bne_iff_ne.mpr hbound
  unfold execTrackPoints
  simp only [ofNat_u8 hk, hsent, Config.trackRoom]
  split
  · next hroom =>
    rw [State.serve_accepted hserving]
    simp only [hcounted, hindex, hlen, hcount, hstage, hfields, hstate, decide_eq_true hroom, firstFailing_true,
      firstFailing_nil]
  · next hfull =>
    rw [State.serve_refused hserving]
    simp only [hcounted, hindex, hlen, hcount, hstage, hfields, hstate, decide_eq_false hfull, firstFailing_true,
      firstFailing_false]

end

/-- Settles O54: what each request accepts, and what its effect does to the fixtures and the track. -/
theorem trackRequests : Obligations.TrackRequests := by
  intro s q k
  refine ⟨fun g hserving hp => ?_, fun hserving hlength hk hpos hle => ?_,
    fun hserving hp hbound => ?_⟩
  · have hframe := s.bindTrack_frame k g.val
    have htrack : ((s.bindTrack k g.val).1.tku)[k] = s.boundTrack k g.val := by rw [State.bindTrack_tku]; simp
    refine ⟨_, execTrackBind_accepted hserving hp, ?_, ?_, s.bindTrack_fixture? k g.val⟩
    · rwa [htrack]
    · rw [htrack]
      rfl
  · intro entries hentries hbound old
    have served := execTrackPoints_eq hserving hlength hk hpos hle rfl hentries hbound
    refine ⟨fun hroom => ?_, fun hfull => served.trans (by rw [if_neg (Nat.not_le.mpr hfull)])⟩
    rw [if_pos hroom] at served
    refine ⟨fun hstate => served.trans ?_, fun hstate => served.trans ?_⟩
    · rw [State.appendPoints_of_running hstate]
    · rw [State.appendPoints_of_not_running hstate]
  · exact ⟨_, execTrackRelease_accepted hserving hp hbound, s.releaseTrack_eq k, s.releaseTrack_fixture? k⟩

end Sys2Proof.Machine

/-! ## The sticks -/

namespace Sys2Proof.Machine

/-! ### Clamping and deflection (R152) -/

/-- A clamp into a range about zero takes the lower and the upper bound in turn. -/
theorem clampTo_eq_max_min (n : Nat) (v : Int) : clampTo (-n) n v = max (-(n : Int)) (min n v) := by
  unfold clampTo
  split_ifs <;> omega

/-- The deflection counts from the edge of the dead band on. -/
theorem deflection_eq (raw centre deadBand : Nat) :
    deflection raw centre deadBand =
      if ((raw : Int) - centre).natAbs ≤ deadBand then 0
      else if 0 < (raw : Int) - centre then (raw : Int) - centre - deadBand else (raw : Int) - centre + deadBand := by
  unfold deflection signOf
  dsimp only
  split_ifs <;> omega

section
variable (offset : Int) (raw centre deadBand gain range step : Nat)

/-- The offset moves by the rounded product, and not out of the range. -/
theorem integrateAxis_moves :
    ∃ add : Int, isHalfAway add (deflection raw centre deadBand * gain * step) 2047000 ∧
      integrateAxis offset raw centre deadBand gain range step = max (-(range : Int)) (min range (offset + add)) :=
  ⟨_, halfAway_isHalfAway _ 2047000 (by omega), clampTo_eq_max_min range _⟩

theorem integrateAxis_range :
    -(range : Int) ≤ integrateAxis offset raw centre deadBand gain range step ∧
      integrateAxis offset raw centre deadBand gain range step ≤ range := by
  rw [integrateAxis, clampTo_eq_max_min]
  omega

/-- In the dead band an offset in the range is held. -/
theorem integrateAxis_held (hband : ((raw : Int) - centre).natAbs ≤ deadBand) (hlow : -(range : Int) ≤ offset)
    (hhigh : offset ≤ range) : integrateAxis offset raw centre deadBand gain range step = offset := by
  have hstill : halfAway (deflection raw centre deadBand * gain * step) 2047000 = 0 := by
    rw [deflection_eq, if_pos hband, zero_mul, zero_mul]
    rfl
  rw [integrateAxis, hstill, add_zero]
  exact clampTo_eq_self (by omega)

/-- An axis after a step: a fault holds it, and so does the dead band. -/
theorem integrateAxis_unlessFaulted (fault : Bool) :
    let new := if fault then offset else integrateAxis offset raw centre deadBand gain range step
    (fault = true → new = offset) ∧
    (fault = false → (∃ add : Int, isHalfAway add (deflection raw centre deadBand * gain * step) 2047000 ∧
      new = max (-(range : Int)) (min range (offset + add))) ∧ -(range : Int) ≤ new ∧ new ≤ range) ∧
    (((raw : Int) - centre).natAbs ≤ deadBand ∧ -(range : Int) ≤ offset ∧ offset ≤ range → new = offset) := by
  cases fault with
  | true => exact ⟨fun _ => rfl, nofun, fun _ => rfl⟩
  | false =>
    refine ⟨nofun, fun _ => ⟨integrateAxis_moves .., integrateAxis_range ..⟩, fun ⟨hband, hlow, hhigh⟩ => ?_⟩
    exact integrateAxis_held _ _ _ _ _ _ _ hband hlow hhigh

end

/-! ### The conversion (R151) -/

/-- A rail reading, as the rule words it. -/
theorem isRail_eq (reading : Nat) : isRail reading = decide (reading ≤ 16 ∨ 4079 ≤ reading) := (Bool.decide_or ..).symm

/-- A stick whose inputs have been read as `x` and `y`. -/
def Stick.converted (k : Stick) (x y : Nat) : Stick :=
  { k with rawX := x, rawY := y, faultX := isRail x, faultY := isRail y }

/-- The notices of a conversion, x before y (R151; log entry 24). -/
def State.faultsNoted (s : State) (i : Fin 2) (x y : Nat) : State :=
  (s.raiseFaultChange i .x (s.sku.sticks[i]).faultX (isRail x)).raiseFaultChange i .y (s.sku.sticks[i]).faultY (isRail y)

/-- A notice sees nothing of the sticks. -/
theorem State.raiseFaultChange_setSku (s : State) (a : Sku) (i : Fin 2) (ax : Axis) (b c : Bool) :
    ({ s with sku := a } : State).raiseFaultChange i ax b c = { s.raiseFaultChange i ax b c with sku := a } := by
  unfold State.raiseFaultChange
  split <;> rfl

/-- A conversion of a stick, right after its inputs have changed to `r`. -/
theorem State.convert_setInputs (s : State) (r : Readings) (i : Fin 2) (x y : Nat) :
    (s.setInputs r).convert i x y =
      { s.faultsNoted i x y with
        sku := { sticks := s.sku.sticks.set i ((s.sku.sticks[i]).converted x y), inputs := r } } := by
  unfold State.convert State.setInputs State.setStick
  simp only [State.raiseFaultChange_setSku]
  rfl

theorem State.convert_sku (s : State) (i : Fin 2) (x y : Nat) :
    (s.convert i x y).sku = { s.sku with sticks := s.sku.sticks.set i ((s.sku.sticks[i]).converted x y) } := by
  rw [State.convert, State.raiseFaultChange_sku, State.raiseFaultChange_sku, State.setStick_sku]
  rfl

theorem stickReadings_eq (r : Readings) (i : Fin 2) :
    stickReadings r i =
      (if i = 0 then r.x0.toNat else r.x1.toNat, if i = 0 then r.y0.toNat else r.y1.toNat) := by
  unfold stickReadings
  split <;> rfl

/-! ### The sampling of an expiry (R152) -/

section
variable (s : State) (r : Readings) (step : Nat)

/-- A sampling changes its own stick, in CONTINUOUS sampling. -/
theorem State.sampleStick_sticks (i : Fin 2) :
    (s.sampleStick r step i).sku.sticks = s.sku.sticks.set i
      (if (s.sku.sticks[i]).sampling = .continuous
       then ((s.sku.sticks[i]).converted (stickReadings r i).1 (stickReadings r i).2).integrate step
       else s.sku.sticks[i]) := by
  unfold State.sampleStick
  split
  · simp [State.convert_sku]
  · simp

/-- The sampling of both sticks, stick by stick. -/
theorem State.sampleSticks_getElem (i : Fin 2) :
    (s.sampleSticks r step).sku.sticks[i] =
      if (s.sku.sticks[i]).sampling = .continuous
      then ((s.sku.sticks[i]).converted (stickReadings r i).1 (stickReadings r i).2).integrate step
      else s.sku.sticks[i] := by
  rw [State.sampleSticks, State.sampleStick_sticks, State.sampleStick_sticks]
  match i with
  | 0 => simp
  | 1 => simp

end

/-- Settles O57: the sampling by its mode, and the integration axis by axis. -/
theorem stickOffsetsStayInRange : Obligations.StickOffsetsStayInRange := by
  refine ⟨fun s r step i => ?_, fun k step => ?_⟩
  · dsimp only
    rw [State.sampleSticks_getElem, stickReadings_eq, Stick.converted, isRail_eq, isRail_eq]
    cases (s.sku.sticks[i]).sampling <;> rfl
  · obtain ⟨hfaultX, hmovesX, hheldX⟩ :=
      integrateAxis_unlessFaulted k.offsetX k.rawX k.centreX k.deadBand k.gain k.range step k.faultX
    obtain ⟨hfaultY, hmovesY, hheldY⟩ :=
      integrateAxis_unlessFaulted k.offsetY k.rawY k.centreY k.deadBand k.gain k.range step k.faultY
    rw [deflection_eq] at hmovesX hmovesY
    exact ⟨rfl, hfaultX, hfaultY, hmovesX, hmovesY, hheldX, hheldY⟩

/-! ### The stick requests -/

section
variable {s : State} {q : Request} {i : Fin 2}

/-- The settings of a STICK-SET (R154). -/
theorem Stick.withSettings_eq (k : Stick) (p : List Byte) :
    k.withSettings p = { k with
      group := if u8 p 1 = 255 then none else some (Fin.ofNat 32 (u8 p 1))
      sampling := if u8 p 2 = 1 then .single else .continuous
      deadBand := u16 p 3, gain := u16 p 5, range := u16 p 7
      offsetX := max (-(u16 p 7 : Int)) (min (u16 p 7) k.offsetX)
      offsetY := max (-(u16 p 7 : Int)) (min (u16 p 7) k.offsetY) } := by
  have hgroup : groupOption (u8 p 1) = if u8 p 1 = 255 then none else some (Fin.ofNat 32 (u8 p 1)) := by
    unfold groupOption optIndex
    split <;> rfl
  simp only [Stick.withSettings, hgroup, clampTo_eq_max_min]

/-- A STICK-CENTRE that reads a rail is told so, and leaves the centres (R155). -/
theorem State.centreStick_of_rail (r : Readings)
    (h : isRail (stickReadings r i).1 = true ∨ isRail (stickReadings r i).2 = true) :
    s.centreStick i r = ((s.setInputs r).convert i (stickReadings r i).1 (stickReadings r i).2,
      { status := .notReady, data := be16 (stickReadings r i).1 ++ be16 (stickReadings r i).2 }) := by
  rw [State.centreStick, if_pos (Bool.or_eq_true_iff.mpr h)]

/-- Clear readings become the centres (R155). -/
theorem State.centreStick_of_clear (r : Readings) (hx : isRail (stickReadings r i).1 = false)
    (hy : isRail (stickReadings r i).2 = false) :
    s.centreStick i r =
      ({ s.faultsNoted i (stickReadings r i).1 (stickReadings r i).2 with
          sku := {
            sticks := s.sku.sticks.set i
              { (s.sku.sticks[i]).converted (stickReadings r i).1 (stickReadings r i).2 with
                centreX := (stickReadings r i).1, centreY := (stickReadings r i).2 }
            inputs := r } },
        .ok (be16 (stickReadings r i).1 ++ be16 (stickReadings r i).2)) := by
  rw [State.centreStick, hx, hy, State.convert_setInputs]
  simp [State.setStick]

theorem State.sampleOnce_eq (r : Readings) :
    s.sampleOnce i r = ((s.setInputs r).convert i (stickReadings r i).1 (stickReadings r i).2,
      .ok (be16 (stickReadings r i).1 ++ be16 (stickReadings r i).2 ++
        [boolByte (isRail (stickReadings r i).1), boolByte (isRail (stickReadings r i).2)])) := by
  simp only [State.sampleOnce, State.convert_setInputs]
  simp [Stick.converted]

end

/-- Settles O56: each request passes its checks, and a conversion comes to the readings, the faults and their notices. -/
theorem stickRequests : Obligations.StickRequests := by
  intro s q i adc k x y rail read told noted
  have hindex (hi : u8 q.payload 0 = i.val) : u8 q.payload 0 ≤ 1 := by omega
  have hx : (stickReadings adc i).1 = x := by rw [stickReadings_eq]
  have hy : (stickReadings adc i).2 = y := by rw [stickReadings_eq]
  have hrail : isRail = rail := funext isRail_eq
  have hread : k.converted x y = read := by rw [Stick.converted, hrail]
  have hnoted : s.faultsNoted i x y = noted := by
    rw [State.faultsNoted, hrail]
    rfl
  have hconverted : (s.setInputs adc).convert i x y =
      { noted with sku := { sticks := s.sku.sticks.set i read, inputs := adc } } := by
    rw [State.convert_setInputs, hnoted, ← hread]
  refine ⟨fun hserving hsaving hlength hi hgroup hmode hband hgain hgain' hrange => ?_, fun hserving hp => ?_,
    fun hserving hsaving hp => ?_, fun hserving hp => ?_⟩
  · refine congrArg _ ((State.serve_accepted hserving ?_).trans ?_)
    · rw [tableChecks_passed ((hasLength_iff ..).mpr hlength) hsaving]
      simp [hindex hi, hgroup, hmode, hband, hgain, hgain', hrange]
    · simp only [stickField_eq hi, Stick.withSettings_eq]
      rfl
  · have hi := u8_index i (by decide) hp
    have hlength : hasLength q 1 = true := hasLength_of_eq hp
    refine congrArg _ ((State.serve_accepted hserving (by simp [hlength, hindex hi])).trans ?_)
    simp only [stickField_eq hi]
    rfl
  · have hi := u8_index i (by decide) hp
    have hlength : hasLength q 1 = true := hasLength_of_eq hp
    have served : exec (.stickCentre q adc) s =
        .next ((s.centreStick i adc).1.answered 0x49 q (s.centreStick i adc).2) := by
      refine congrArg _ ((State.serve_accepted hserving ?_).trans (by rw [stickField_eq hi]))
      rw [tableChecks_passed hlength hsaving]
      simp [hindex hi]
    rw [← hrail]
    refine ⟨fun hany => served.trans ?_, fun hclearX hclearY => served.trans ?_⟩
    · rw [State.centreStick_of_rail adc (by rwa [hx, hy]), hx, hy, hconverted]
    · rw [State.centreStick_of_clear adc (by rwa [hx]) (by rwa [hy]), hx, hy, hnoted, hread]
  · have hi := u8_index i (by decide) hp
    have hlength : hasLength q 1 = true := hasLength_of_eq hp
    refine congrArg _ ((State.serve_accepted hserving (by simp [hlength, hindex hi])).trans ?_)
    rw [stickField_eq hi, State.sampleOnce_eq, hx, hy, hconverted, hrail]

end Sys2Proof.Machine

/-! ## Fixture lines: the change of one line, its frames and its faults -/

namespace Sys2Proof.Machine

section
variable (s : State) (l : Fin 8)

/-- The changed line. -/
theorem State.modifyLine_lnu_self (f : Line → Line) : (s.modifyLine l f).lnu[l] = f s.lnu[l] := by simp

/-- Two changes of a line in turn are one. -/
theorem State.modifyLine_modifyLine (f g : Line → Line) :
    (s.modifyLine l f).modifyLine l g = s.modifyLine l fun x => g (f x) := by
  simp [State.modifyLine]

/-- A clear input, or armed mode OFF, leaves a line out of FAULT (R161). -/
theorem Line.meetsFault_eq_false_iff (x : Line) : x.meetsFault = false ↔ x.faultInput = false ∨ x.armed = .off := by
  rw [Line.meetsFault, Bool.and_eq_false_iff, bne_eq_false_iff_eq]

theorem Line.meetsFault_eq_true_iff (x : Line) : x.meetsFault = true ↔ x.faultInput = true ∧ x.armed ≠ .off := by
  simp [Line.meetsFault]

/-- A changed line that does not meet its fault input takes its armed mode (R158, R161). -/
theorem State.settleLine_of_clear {s : State} {l : Fin 8} {f : Line → Line} (h : (f s.lnu[l]).meetsFault = false) :
    (s.modifyLine l f).settleLine l = s.modifyLine l fun x => { f x with mode := (f x).armed.mode } := by
  have hclear : ((s.modifyLine l f).lnu[l]).meetsFault = false := by rwa [State.modifyLine_lnu_self]
  rw [State.settleLine, if_neg (Bool.eq_false_iff.mp hclear), State.modifyLine_modifyLine]

/-- A changed line that meets its fault input enters FAULT (R161, R169). -/
theorem State.settleLine_of_fault {s : State} {l : Fin 8} {f : Line → Line} (h : (f s.lnu[l]).meetsFault = true) :
    (s.modifyLine l f).settleLine l = (s.modifyLine l fun x => (f x).faulted).raise (.lineFault l) := by
  have hmeets : ((s.modifyLine l f).lnu[l]).meetsFault = true := by rwa [State.modifyLine_lnu_self]
  rw [State.settleLine, if_pos hmeets, State.enterFault, State.modifyLine_modifyLine]

/-! ### Frames (R166, R167, R171) -/

/-- A frame starts when its interval lets it; before the first frame of a line that is at once (R166). -/
theorem Line.max_frameDue (x : Line) (now : Nat) :
    max now (x.frameDue now) = max now ((x.lastStart.map fun u => u + x.minInterval * 1000).getD 0) := by
  unfold Line.frameDue
  cases x.lastStart <;> simp

theorem Line.mayStart_iff (x : Line) : x.mayStart = true ↔ x.mode = .frame ∧ x.frame = none := by
  simp [Line.mayStart]

/-- FRAME_START on a line that may start a frame. -/
theorem execFrameStart_of_mayStart (h : (s.lnu[l]).mayStart = true) :
    execFrameStart l s =
      (let s1 := s.advanceTo ((s.lnu[l]).frameDue s.scu.timeUs)
       .next (s1.modifyLine l fun x => x.started s1.scu.timeUs)) := if_pos h

/-- FRAME_START leaves a line that may not start one (log entry 3). -/
theorem execFrameStart_of_not_mayStart (h : ¬ (s.lnu[l]).mayStart = true) : execFrameStart l s = .next s := if_neg h

theorem execFrameSent_of_some {f : Frame} (h : (s.lnu[l]).frame = some f) : execFrameSent l s = .next (s.endFrame l f) := by
  simp only [execFrameSent, h]

theorem execFrameSent_of_none (h : (s.lnu[l]).frame = none) : execFrameSent l s = .next s := by
  simp only [execFrameSent, h]

/-- A frame takes its break, its mark and its slots (R166). -/
theorem frameTime_eq (n : Nat) : frameTime n = 112 + 44 * (n + 1) := by
  unfold frameTime
  omega

/-! ### The fault input (R169) -/

theorem execFaultInputAsserted_of_driven (h : (s.lnu[l]).mode = .frame ∨ (s.lnu[l]).mode = .pin) :
    execFaultInputAsserted l s =
      .next ((s.modifyLine l fun x => { x with faultInput := true }.faulted).raise (.lineFault l)) := by
  rw [← State.modifyLine_modifyLine]
  unfold execFaultInputAsserted
  obtain hmode | hmode := h <;> rw [hmode] <;> rfl

theorem execFaultInputAsserted_of_undriven (h : (s.lnu[l]).mode = .off ∨ (s.lnu[l]).mode = .fault) :
    execFaultInputAsserted l s = .next (s.modifyLine l fun x => { x with faultInput := true }) := by
  unfold execFaultInputAsserted
  obtain hmode | hmode := h <;> rw [hmode]

end

/-- Settles O59: a frame's start and end by whether the line may start or has one, the fault input by the mode. -/
theorem lineFramesAndFaults : Obligations.LineFramesAndFaults := by
  intro s l old
  refine ⟨fun hmode hframe => ?_, fun hother => ?_, fun f hframe => ?_, execFrameSent_of_none s l,
    execFaultInputAsserted_of_driven s l, execFaultInputAsserted_of_undriven s l, rfl⟩
  · intro start
    refine (execFrameStart_of_mayStart s l ((Line.mayStart_iff _).mpr ⟨hmode, hframe⟩)).trans ?_
    have hstart : max s.scu.timeUs ((s.lnu[l]).frameDue s.scu.timeUs) = start := Line.max_frameDue _ _
    simp only [State.advanceTo_scu, hstart]
    simp only [State.advanceTo, hstart]
    rfl
  · refine execFrameStart_of_not_mayStart s l fun hmay => ?_
    obtain ⟨hmode, hnone⟩ := (Line.mayStart_iff _).mp hmay
    exact hother.elim (· hmode) fun hsome => Option.isSome_iff_ne_none.mp hsome hnone
  · intro done sent
    have ended := execFrameSent_of_some s l hframe
    rw [State.endFrame, frameTime_eq, ← Nat.add_assoc] at ended
    refine ⟨fun hclear => ended.trans ?_, fun hasserted harmed => ended.trans ?_⟩
    · rw [State.settleLine_of_clear ((Line.meetsFault_eq_false_iff _).mpr hclear)]
      rfl
    · rw [State.settleLine_of_fault ((Line.meetsFault_eq_true_iff _).mpr ⟨hasserted, harmed⟩)]
      rfl

end Sys2Proof.Machine

/-! ## A frame on the line -/

namespace Sys2Proof.Machine

/-! ### Slots as levels (R166) -/

theorem slotLevels_length (b : Byte) : (slotLevels b).length = 11 := rfl

/-- A slot takes 44 µs. -/
theorem slotLevels_time (b : Byte) : ((slotLevels b).map Prod.snd).sum = 44 := rfl

theorem flatMap_slotLevels_length (slots : List Byte) : (slots.flatMap slotLevels).length = 11 * slots.length := by
  simp [List.length_flatMap, slotLevels_length, Nat.mul_comm]

theorem flatMap_slotLevels_time (slots : List Byte) : ((slots.flatMap slotLevels).map Prod.snd).sum = slots.length * 44 := by
  induction slots with
  | nil => rfl
  | cons b rest ih =>
    rw [List.flatMap_cons, List.map_append, List.sum_append, slotLevels_time, ih, List.length_cons]
    omega

/-- Slot `n` takes the eleven levels from number `11 * n` on. -/
theorem take_drop_flatMap_slotLevels {slots : List Byte} {n : Nat} (h : n < slots.length) :
    ((slots.flatMap slotLevels).drop (11 * n)).take 11 = slotLevels (slots.getD n 0) := by
  induction slots generalizing n with
  | nil => exact absurd h (Nat.not_lt_zero n)
  | cons b rest ih =>
    rw [List.flatMap_cons]
    cases n with
    | zero => exact List.take_left' (slotLevels_length b)
    | succ n =>
      rw [Nat.mul_succ, Nat.add_comm, ← List.drop_drop, List.drop_left' (slotLevels_length b), List.getD_cons_succ]
      exact ih (Nat.lt_of_succ_lt_succ h)

/-! ### The check slot (R168) -/

/-- What the check value takes in before the data slots. -/
theorem foldl_startCode (op : Byte → Byte → Byte) (h : ∀ b, op 0 b = b) (included : Bool) (start : Byte) (values : List Byte) :
    ((if included then [start] else []) ++ values).foldl op 0 = values.foldl op (if included then start else 0) := by
  cases included with
  | false => rfl
  | true => exact congrArg (values.foldl op) (h start)

section
variable (f : Frame)

/-- The bytes that the check value covers, folded from the start code or from 0. -/
def Frame.folded (op : Byte → Byte → Byte) : Byte :=
  (f.values.take (f.length - 1)).foldl op (if f.includeStart then f.startCode else 0)

theorem Frame.sent_of_none (h : f.check = .none) : f.sent = f.values := by
  simp only [Frame.sent, Frame.checkValue, h]

theorem Frame.sent_of_xor (h : f.check = .xor) :
    f.sent = f.values.take (f.length - 1) ++ [f.folded (· ^^^ ·)] := by
  simp only [Frame.sent, Frame.checkValue, h, foldl_startCode (· ^^^ ·) fun _ => BitVec.zero_xor, Frame.folded]

theorem Frame.sent_of_sum (h : f.check = .sum) :
    f.sent = f.values.take (f.length - 1) ++ [f.folded (· + ·)] := by
  simp only [Frame.sent, Frame.checkValue, h, foldl_startCode (· + ·) BitVec.zero_add, Frame.folded]

/-- The slots sent are those latched, but for the check slot. -/
theorem Frame.sent_cases : f.sent = f.values ∨ ∃ c, f.sent = f.values.take (f.length - 1) ++ [c] := by
  cases h : f.check with
  | none => exact .inl (f.sent_of_none h)
  | xor => exact .inr ⟨_, f.sent_of_xor h⟩
  | sum => exact .inr ⟨_, f.sent_of_sum h⟩

variable {f} (hpos : 1 ≤ f.length) (hvalues : f.values.length = f.length)
include hvalues

theorem Frame.covered_length : (f.values.take (f.length - 1)).length = f.length - 1 := by
  rw [List.length_take, hvalues, Nat.min_eq_left (Nat.sub_le ..)]

theorem Frame.sent_take : f.sent.take (f.length - 1) = f.values.take (f.length - 1) := by
  obtain h | ⟨c, h⟩ := f.sent_cases <;> rw [h]
  exact List.take_left' (Frame.covered_length hvalues)

include hpos

theorem Frame.sent_length : f.sent.length = f.length := by
  obtain h | ⟨c, h⟩ := f.sent_cases <;> rw [h]
  · exact hvalues
  · rw [List.length_append, Frame.covered_length hvalues, List.length_singleton, Nat.sub_add_cancel hpos]

end

/-- Settles O60: the levels slot by slot, then the slots sent by the check slot. -/
theorem frameOnTheLine : Obligations.FrameOnTheLine := by
  intro f hpos hvalues
  have hsent := Frame.sent_length hpos hvalues
  have hslots : (f.startCode :: f.sent).length = f.length + 1 := congrArg (· + 1) hsent
  refine ⟨rfl, ?_, fun n hn => ?_, ?_, hsent, Frame.sent_take hvalues, f.sent_of_none, fun hxor => ?_, fun hsum => ?_⟩
  · rw [Frame.levels, List.length_cons, List.length_cons, flatMap_slotLevels_length, hslots]
    omega
  · rw [Nat.add_comm]
    exact take_drop_flatMap_slotLevels (by omega)
  · rw [Frame.levels, List.map_cons, List.map_cons, List.sum_cons, List.sum_cons, flatMap_slotLevels_time, hslots,
      ← Nat.add_assoc]
  · rw [f.sent_of_xor hxor, List.foldl_append]
    exact BitVec.xor_self
  · rw [f.sent_of_sum hsum, List.getD_append_right _ _ _ _ (Frame.covered_length hvalues).le,
      Frame.covered_length hvalues, Nat.sub_self]
    rfl

end Sys2Proof.Machine

/-! ## The line requests -/

namespace Sys2Proof.Machine

/-! ### The fixtures on a line (R8, R160) -/

section
variable {s : State} {l : Fin 8}

theorem State.mem_fixturesOn (i : Fin 128) :
    i ∈ s.fixturesOn l ↔ ∃ f, s.fixture? i = some f ∧ f.config.line = l := by
  simp [State.fixturesOn, State.fixturesWhere, Option.any_eq_true]

/-- Check 7 of R160. -/
theorem State.footprintsFit_of {n : Nat} {check : CheckSlot}
    (h : ∀ i f, s.fixture? i = some f → f.config.line = l →
      f.config.start + s.footprint f.config - 1 ≤ n - (if check = .none then 0 else 1)) :
    s.footprintsFit l n check = true := by
  refine List.all_eq_true.mpr fun i hi => ?_
  obtain ⟨f, hf, hline⟩ := (State.mem_fixturesOn i).mp hi
  rw [hf]
  exact (footprintFits_iff ..).mpr (h i f hf hline)

/-- Check 6 of R160: a line with a fixture is armed in FRAME. -/
theorem State.fixturesOn_allow {armed : ArmedMode}
    (h : ∀ i f, s.fixture? i = some f → f.config.line = l → armed = .frame) :
    ((s.fixturesOn l).isEmpty || (armedCode armed).toNat == 1) = true := by
  cases hon : s.fixturesOn l with
  | nil => rfl
  | cons i rest =>
    obtain ⟨f, hf, hline⟩ := (State.mem_fixturesOn i).mp (hon ▸ List.mem_cons_self)
    rw [h i f hf hline]
    rfl

end

/-! ### Payload fields (Table 33) -/

theorem armedOf_armedCode (a : ArmedMode) : armedOf (armedCode a).toNat = a := by cases a <;> rfl

theorem armedCode_lt (a : ArmedMode) : (armedCode a).toNat < 3 := by cases a <;> decide

theorem checkOf_checkCode (c : CheckSlot) : checkOf (checkCode c).toNat = c := by cases c <;> rfl

theorem checkCode_lt (c : CheckSlot) : (checkCode c).toNat < 3 := by cases c <;> decide

theorem boolByte_toNat_lt (b : Bool) : (boolByte b).toNat < 2 := by cases b <;> decide

theorem boolByte_toNat_beq (b : Bool) : ((boolByte b).toNat == 1) = b := by cases b <;> rfl

/-- A 2-byte field after other bytes is read as it was written. -/
theorem u16_of_eq_append {p front rest : List Byte} {n : Nat} (h : p = front ++ (be16 n ++ rest)) (hn : n < 65536) :
    u16 p front.length = n := by
  have hdrop : p.drop front.length = be16 n ++ rest := by rw [h]; exact List.drop_left
  rw [show u16 p front.length = u16 (p.drop front.length) 0 from (u16_drop p front.length 0).symm, hdrop, u16_be16,
    Nat.mod_eq_of_lt hn]

/-! ### LINE-SET (R160, R161) -/

/-- The payload of a LINE-SET. -/
def lineSetPayload (l : Fin 8) (armed : ArmedMode) (n : Nat) (start : Byte) (check : CheckSlot) (inc : Bool)
    (interval : Nat) : List Byte :=
  [byteOf l.val, armedCode armed] ++ be16 n ++ [start, checkCode check, boolByte inc] ++ be16 interval

section
variable {s : State} {q : Request} {l : Fin 8} {armed : ArmedMode} {n : Nat} {start : Byte} {check : CheckSlot} {inc : Bool}
  {interval : Nat}

/-- The frame length and the interval of a LINE-SET. -/
theorem lineSetPayload_numbers (hn : n ≤ 512) (hinterval : interval ≤ 1000) :
    u16 (lineSetPayload l armed n start check inc interval) 2 = n ∧
      u16 (lineSetPayload l armed n start check inc interval) 7 = interval :=
  ⟨u16_of_eq_append (front := [byteOf l.val, armedCode armed])
      (rest := [start, checkCode check, boolByte inc] ++ be16 interval) rfl (by omega),
    u16_of_eq_append (front := [byteOf l.val, armedCode armed] ++ be16 n ++ [start, checkCode check, boolByte inc])
      (rest := []) rfl (by omega)⟩

/-- The settings that a LINE-SET writes into a line. -/
theorem Line.withSettings_lineSetPayload (x : Line) (hn : n ≤ 512) (hinterval : interval ≤ 1000) :
    x.withSettings (lineSetPayload l armed n start check inc interval) =
      { x with armed := armed, length := n, startCode := start, check := check, includeStart := inc, minInterval := interval } := by
  obtain ⟨hlength, hmin⟩ := lineSetPayload_numbers (l := l) (armed := armed) (start := start) (check := check) (inc := inc)
    hn hinterval
  have harmed : armedOf (u8 (lineSetPayload l armed n start check inc interval) 1) = armed := armedOf_armedCode armed
  have hcheck : checkOf (u8 (lineSetPayload l armed n start check inc interval) 5) = check := checkOf_checkCode check
  have hinc : (u8 (lineSetPayload l armed n start check inc interval) 6 == 1) = inc := boolByte_toNat_beq inc
  have hstart : (lineSetPayload l armed n start check inc interval).getD 4 0 = start := rfl
  simp only [Line.withSettings, harmed, hlength, hstart, hcheck, hinc, hmin]

/-- A LINE-SET that meets R160 takes its effect. -/
theorem execLineSet_accepted (hserving : s.serving 0x50 q) (hsaving : s.ims.saving = none)
    (hp : q.payload = lineSetPayload l armed n start check inc interval) (hn : 24 ≤ n) (hn' : n ≤ 512)
    (hinterval : 1 ≤ interval) (hinterval' : interval ≤ 1000)
    (hfixtures : ∀ i f, s.fixture? i = some f → f.config.line = l → armed = .frame ∧
      f.config.start + s.footprint f.config - 1 ≤ n - (if check = .none then 0 else 1)) :
    execLineSet q s = .next ((s.setLine l q.payload).1.answered 0x50 q (s.setLine l q.payload).2) := by
  have hlength : hasLength q 9 = true := hasLength_of_eq hp
  have hl := u8_index l (by decide) hp
  obtain ⟨hframe, hmin⟩ := lineSetPayload_numbers (l := l) (armed := armed) (start := start) (check := check) (inc := inc)
    hn' hinterval'
  rw [← hp] at hframe hmin
  have harmed : u8 q.payload 1 = (armedCode armed).toNat := by rw [hp]; rfl
  have hcheck : u8 q.payload 5 = (checkCode check).toNat := by rw [hp]; rfl
  have hinc : u8 q.payload 6 = (boolByte inc).toNat := by rw [hp]; rfl
  have hallow := State.fixturesOn_allow fun i f hf hline => (hfixtures i f hf hline).1
  have hfit := State.footprintsFit_of fun i f hf hline => (hfixtures i f hf hline).2
  unfold execLineSet
  simp only [lineField_eq hl]
  refine congrArg _ (State.serve_accepted hserving ?_)
  rw [tableChecks_passed hlength hsaving, hl, hframe, hmin, harmed, hcheck, hinc, checkOf_checkCode, hallow, hfit,
    decide_eq_true l.isLt, decide_eq_true (armedCode_lt armed), decide_eq_true ⟨hn, hn'⟩,
    decide_eq_true ⟨checkCode_lt check, boolByte_toNat_lt inc⟩, decide_eq_true ⟨hinterval, hinterval'⟩]
  rfl

/-- While a frame is in progress, the settings wait for its end (R161). -/
theorem State.setLine_of_frame (p : List Byte) (h : (s.lnu[l]).frame.isSome = true) :
    s.setLine l p = (s.modifyLine l fun x => x.withSettings p, .ok [lineModeCode (s.lnu[l]).mode]) := by
  simp only [State.setLine, h, if_true, State.modifyLine_lnu_self]
  rfl

/-- Without a frame and without a fault, the line takes its armed mode at once. -/
theorem State.setLine_of_clear {p : List Byte} (h : (s.lnu[l]).frame = none)
    (hclear : ((s.lnu[l]).withSettings p).meetsFault = false) :
    s.setLine l p = (s.modifyLine l fun x => { x.withSettings p with mode := (x.withSettings p).armed.mode },
      .ok [lineModeCode ((s.lnu[l]).withSettings p).armed.mode]) := by
  have hsettled := State.settleLine_of_clear (f := fun x => x.withSettings p) hclear
  simp only [State.setLine, h, Option.isSome_none, Bool.false_eq_true, if_false, hsettled, State.modifyLine_lnu_self]

/-- Without a frame, an asserted fault input is met at once. -/
theorem State.setLine_of_fault {p : List Byte} (h : (s.lnu[l]).frame = none)
    (hfault : ((s.lnu[l]).withSettings p).meetsFault = true) :
    s.setLine l p = ((s.modifyLine l fun x => (x.withSettings p).faulted).raise (.lineFault l), .ok [3]) := by
  have hsettled := State.settleLine_of_fault (f := fun x => x.withSettings p) hfault
  simp only [State.setLine, h, Option.isSome_none, Bool.false_eq_true, if_false, hsettled, State.raise_lnu,
    State.modifyLine_lnu_self]
  rfl

/-! ### LINE-PIN (R162) -/

theorem execLinePin_accepted {high : Bool} (hserving : s.serving 0x51 q) (hsaving : s.ims.saving = none)
    (hp : q.payload = [byteOf l.val, boolByte high]) :
    execLinePin q s = .next ((s.modifyLine l fun x => { x with pinHigh := high }).answered 0x51 q (.ok [])) := by
  have hlength : hasLength q 2 = true := hasLength_of_eq hp
  have hl := u8_index l (by decide) hp
  have hhigh : u8 q.payload 1 = (boolByte high).toNat := by rw [hp]; rfl
  unfold execLinePin
  simp only [lineField_eq hl, hhigh, boolByte_toNat_beq]
  refine congrArg _ (State.serve_accepted hserving ?_)
  rw [tableChecks_passed hlength hsaving, hl, decide_eq_true l.isLt, decide_eq_true (boolByte_toNat_lt high)]
  rfl

/-! ### LINE-STATIC (R163) -/

/-- The offsets below `bound` whose slots are owned. -/
def ownedOffsets (owned : Nat → Bool) (bound : Nat) : List Nat := (List.range bound).filter fun o => owned (o + 1)

theorem mem_ownedOffsets {owned : Nat → Bool} {bound o : Nat} (h : o < bound) :
    o ∈ ownedOffsets owned bound ↔ owned (o + 1) = true := by
  simp [ownedOffsets, h]

/-- LINE-STATIC goes round owned slots as FIXTURE-SLOTS goes round the slot map of a fixture at slot 1 (R11, R163). -/
theorem writeUnowned_eq_writeUnmapped (owned : Nat → Bool) (img : Vector Byte 512) (o : Nat) (values : List Byte) {bound : Nat}
    (h : o + values.length ≤ bound) :
    writeUnowned owned img (o + 1) values = writeUnmapped (ownedOffsets owned bound) 1 img o values := by
  induction values generalizing img o with
  | nil => rfl
  | cons b rest ih =>
    rw [List.length_cons] at h
    have hcontains : (ownedOffsets owned bound).contains o = owned (o + 1) := by
      rw [Bool.eq_iff_iff, List.contains_iff_mem, mem_ownedOffsets (by omega)]
    rw [writeUnowned, writeUnmapped, ih _ _ (by omega), hcontains, Nat.add_comm 1]

/-- Values go into the next image where no fixture owns the slot; every other slot is kept. -/
theorem writeUnowned_getElem (owned : Nat → Bool) (img : Vector Byte 512) {slot : Nat} (values : List Byte) (k : Nat)
    (h : k < 512) (hslot : 1 ≤ slot) :
    (writeUnowned owned img slot values)[k] =
      if covers slot values.length k ∧ owned (k + 1) = false then values.getD (k - (slot - 1)) 0 else img[k] := by
  obtain ⟨o, rfl⟩ := Nat.exists_eq_add_of_le' hslot
  simp only [writeUnowned_eq_writeUnmapped owned img o values (le_refl _), writeUnmapped_getElem _ _ _ _ _ _ h (le_refl 1),
    Nat.add_comm 1, Nat.sub_self, Nat.sub_zero]
  refine if_congr (and_congr_right fun hcovers => ?_) rfl rfl
  have hbound := ((covers_iff ..).mp hcovers).2
  rw [mem_ownedOffsets (by omega), Bool.not_eq_true]

/-- LINE-STATIC changes the static values and the next image of its line, and no other. -/
theorem State.setLineStatics_lnu (slot : Nat) (values : List Byte) :
    ((s.setLineStatics l slot values).lnu)[l] = { s.lnu[l] with
      statics := writeSlots (s.lnu[l]).statics (slot - 1) values
      next := writeUnowned (s.ownsSlot l) (s.lnu[l]).next slot values } := State.modifyLine_lnu_self ..

theorem State.setLineStatics_eq (slot : Nat) (values : List Byte) :
    s.setLineStatics l slot values =
      { s with lnu := s.lnu.set l ((s.setLineStatics l slot values).lnu[l]) } := by
  rw [State.setLineStatics_lnu]
  rfl

theorem execLineStatic_accepted {slot : Nat} {values : List Byte} (hserving : s.serving 0x52 q) (hsaving : s.ims.saving = none)
    (hp : q.payload = [byteOf l.val] ++ be16 slot ++ [byteOf values.length] ++ values) (hslot : 1 ≤ slot)
    (hpos : 1 ≤ values.length) (hle : values.length ≤ 200) (hend : slot + values.length - 1 ≤ 512) :
    execLineStatic q s = .next ((s.setLineStatics l slot values).answered 0x52 q (.ok [])) := by
  have hl := u8_index l (by decide) hp
  have hread : u16 q.payload 1 = slot :=
    u16_of_eq_append (front := [byteOf l.val]) (rest := [byteOf values.length] ++ values) hp (by omega)
  have hcount : u8 q.payload 3 = values.length := by
    rw [hp]
    exact (byteOf_toNat values.length).trans (by omega)
  have hvalues : q.payload.drop 4 = values := by rw [hp]; rfl
  have hplen : q.payload.length = 4 + values.length := by rw [hp, List.length_append]; rfl
  have hcounted : hasCountedLength q 4 3 1 = true := by
    simp only [hasCountedLength, hcount, hplen, Config.maxPayload, Nat.one_mul, beq_self_eq_true, Bool.and_true,
      Bool.and_eq_true, decide_eq_true_eq]
    omega
  have hslot' : slot ≤ 512 := by omega
  unfold execLineStatic
  simp only [lineField_eq hl, hread, hcount, hvalues]
  refine congrArg _ (State.serve_accepted hserving ?_)
  rw [tableChecks_passed hcounted hsaving, hl, decide_eq_true l.isLt, decide_eq_true ⟨hslot, hslot'⟩,
    decide_eq_true ⟨hpos, hle⟩, decide_eq_true hend]
  rfl

end

/-- Settles O58: each request passes its checks; LINE-SET then goes by the frame in progress and the fault input. -/
theorem lineRequests : Obligations.LineRequests := by
  intro s q l hsaving old
  refine ⟨fun armed n start check inc interval hserving hp hn hn' hinterval hinterval' hfixtures => ?_,
    fun high hserving hp => execLinePin_accepted hserving hsaving hp,
    fun slot values hserving hp hslot hpos hle hend => ?_⟩
  · intro set
    have served := execLineSet_accepted hserving hsaving hp hn hn' hinterval hinterval' hfixtures
    have hset : (s.lnu[l]).withSettings q.payload = set :=
      (congrArg _ hp).trans (Line.withSettings_lineSetPayload _ hn' hinterval')
    refine ⟨fun hframe => served.trans ?_, fun hframe hclear => served.trans ?_, fun hframe hasserted harmed => served.trans ?_⟩
    · rw [State.setLine_of_frame _ hframe, State.modifyLine, hset]
    · rw [State.setLine_of_clear hframe (by rw [hset]; exact (Line.meetsFault_eq_false_iff _).mpr hclear), State.modifyLine,
        hset]
    · rw [State.setLine_of_fault hframe (by rw [hset]; exact (Line.meetsFault_eq_true_iff _).mpr ⟨hasserted, harmed⟩),
        State.modifyLine, hset]
      have hfaulted : set.faulted = { set with mode := .fault, faults := old.faults + 1 } := by
        simp only [Line.faulted, ← hframe]
        rfl
      rw [hfaulted]
  · refine ⟨_, execLineStatic_accepted hserving hsaving hp hslot hpos hle hend, State.setLineStatics_eq slot values,
      ?_, fun k hk => ⟨?_, ?_⟩⟩
    · rw [State.setLineStatics_lnu]
    · simp only [State.setLineStatics_lnu, writeSlots_getElem _ _ _ _ hk, covers_iff]
      rfl
    · simp only [State.setLineStatics_lnu]
      exact writeUnowned_getElem _ _ _ _ hk hslot

end Sys2Proof.Machine

/-! ## What leaves the service of requests alone -/

namespace Sys2Proof.Machine

/-! ### The relation -/

/-- The bounds of the notice queue and of the lost count (R182). -/
def Rqd.noticesBounded (q : Rqd) : Prop := q.notices.length ≤ 32 ∧ q.lost ≤ 65535

/-- `t` has the lanes, the request in progress and the replies of `s`, and its notices are in bounds where those of `s` are. -/
structure State.keepsService (s t : State) : Prop where
  normal : t.rqd.normal = s.rqd.normal
  urgent : t.rqd.urgent = s.rqd.urgent
  inProgress : t.rqd.inProgress = s.rqd.inProgress
  replies : t.sli.replies = s.sli.replies
  notices : s.rqd.noticesBounded → t.rqd.noticesBounded

namespace State.keepsService

theorem refl (s : State) : s.keepsService s := ⟨rfl, rfl, rfl, rfl, id⟩

theorem trans {s t u : State} (h : s.keepsService t) (h' : t.keepsService u) : s.keepsService u :=
  ⟨h'.normal.trans h.normal, h'.urgent.trans h.urgent, h'.inProgress.trans h.inProgress, h'.replies.trans h.replies,
    fun hs => h'.notices (h.notices hs)⟩

/-- What leaves the link and the RQD alone keeps the service. -/
theorem of_blocks {s t : State} (hsli : t.sli = s.sli) (hrqd : t.rqd = s.rqd) : s.keepsService t :=
  ⟨by rw [hrqd], by rw [hrqd], by rw [hrqd], by rw [hsli], by rw [hrqd]; exact id⟩

/-- A fold keeps the service when each of its steps does. -/
theorem foldl {α : Type} {f : State → α → State} (h : ∀ (s : State) a, s.keepsService (f s a)) (l : List α) (s : State) :
    s.keepsService (l.foldl f s) := by
  induction l generalizing s with
  | nil => exact refl s
  | cons a l ih => exact (h s a).trans (ih (f s a))

/-- A choice keeps the service when both sides do. -/
theorem ite {s t u : State} {c : Prop} [Decidable c] (ht : s.keepsService t) (hu : s.keepsService u) :
    s.keepsService (if c then t else u) := by
  split
  · exact ht
  · exact hu

end State.keepsService

open State.keepsService

/-- A lost notice keeps the lost count within 65535. -/
theorem Rqd.raise_noticesBounded {q : Rqd} {n : NoticeRecord} (h : q.noticesBounded) : (q.raise n).noticesBounded := by
  refine ⟨(Rqd.raise_bounded h.1).1, ?_⟩
  unfold Rqd.raise
  split
  · exact h.2
  · exact Nat.min_le_right ..

section
variable (s : State)

theorem State.raise_keepsService (n : Notice) : s.keepsService (s.raise n) := by
  obtain ⟨hnormal, hurgent, hprogress⟩ : (s.raise n).rqd.normal = s.rqd.normal ∧ (s.raise n).rqd.urgent = s.rqd.urgent ∧
      (s.raise n).rqd.inProgress = s.rqd.inProgress := by
    rw [State.raise_rqd]
    unfold Rqd.raise
    split <;> exact ⟨rfl, rfl, rfl⟩
  exact ⟨hnormal, hurgent, hprogress, rfl, Rqd.raise_noticesBounded⟩

theorem State.count_keepsService (f : Stats → Stats) : s.keepsService (s.count f) := ⟨rfl, rfl, rfl, rfl, id⟩

/-! ### Fixtures, lines, tracks and sticks -/

theorem State.raiseFlag_keepsService (i : Fin 128) (flag : FlagName) (before after : Bool) :
    s.keepsService (s.raiseFlag i flag before after) := ite (s.raise_keepsService _) (refl s)

theorem State.enterFault_keepsService (l : Fin 8) : s.keepsService (s.enterFault l) :=
  (of_blocks rfl rfl : s.keepsService (s.modifyLine l Line.faulted)).trans (State.raise_keepsService _ _)

theorem State.settleLine_keepsService (l : Fin 8) : s.keepsService (s.settleLine l) :=
  ite (s.enterFault_keepsService l) (of_blocks rfl rfl)

theorem State.rearmLine_keepsService (l : Fin 8) : s.keepsService (s.rearmLine l) :=
  (of_blocks rfl rfl : s.keepsService (s.modifyLine l _)).trans (State.settleLine_keepsService _ l)

theorem State.rearmLines_keepsService : s.keepsService s.rearmLines := foldl State.rearmLine_keepsService _ s

theorem State.rebuildImages_keepsService : s.keepsService s.rebuildImages :=
  of_blocks s.rebuildImages_sli s.rebuildImages_rqd

theorem State.updateTrack_keepsService (k : Fin 4) (t : LocalTime) : s.keepsService (s.updateTrack k t) := by
  have moved (u : Track) : s.keepsService (s.setTrack k u) := of_blocks rfl rfl
  unfold State.updateTrack
  dsimp only
  repeat' split
  · exact refl s
  · exact moved _
  · exact ((moved _).trans (State.count_keepsService _ _)).trans (State.raise_keepsService _ _)
  · exact (moved _).trans (State.raise_keepsService _ _)

theorem State.updateTrackOnce_keepsService (k : Fin 4) (t : LocalTime) : s.keepsService (s.updateTrackOnce k t) :=
  ite (refl s) (s.updateTrack_keepsService k t)

theorem State.updateMemberless_keepsService (t : LocalTime) : s.keepsService (s.updateMemberless t) :=
  foldl (fun u k => ite (u.updateTrack_keepsService k t) (refl u)) _ s

theorem State.updateRemaining_keepsService (t : LocalTime) : s.keepsService (s.updateRemaining t) :=
  foldl (fun u k => u.updateTrackOnce_keepsService k t) _ s

theorem State.raiseFaultChange_keepsService (i : Fin 2) (axis : Axis) (before after : Bool) :
    s.keepsService (s.raiseFaultChange i axis before after) := ite (refl s) (s.raise_keepsService _)

theorem State.convert_keepsService (i : Fin 2) (x y : Nat) : s.keepsService (s.convert i x y) := by
  have read (k : Stick) : s.keepsService (s.setStick i k) := of_blocks rfl rfl
  exact ((read _).trans (State.raiseFaultChange_keepsService ..)).trans (State.raiseFaultChange_keepsService ..)

theorem State.sampleStick_keepsService (r : Readings) (n : Nat) (i : Fin 2) : s.keepsService (s.sampleStick r n i) :=
  ite ((s.convert_keepsService i _ _).trans (of_blocks rfl rfl)) (refl s)

theorem State.sampleSticks_keepsService (r : Readings) (n : Nat) : s.keepsService (s.sampleSticks r n) :=
  (s.sampleStick_keepsService r n 0).trans (State.sampleStick_keepsService _ r n 1)

/-! ### Show time and timing marks -/

theorem State.setRunning_keepsService (r : Bool) : s.keepsService (s.setRunning r) := by
  unfold State.setRunning
  split
  · exact refl s
  · exact trans (t := { s with scu := { s.scu with running := r } }) (of_blocks rfl rfl) (State.raise_keepsService _ _)

theorem State.enterLock_keepsService (l : Lock) : s.keepsService (s.enterLock l) :=
  (of_blocks rfl rfl : s.keepsService (s.setLock l)).trans (State.raise_keepsService _ _)

theorem State.fireEntry_keepsService (b : Bool) (e : TimelineEntry) : s.keepsService (State.fireEntry b s e) :=
  ite (of_blocks (Firing.walk_sli ..) (Firing.walk_rqd ..)) (s.raise_keepsService _)

theorem State.reportForward_keepsService (b : Bool) (t : Nat) : s.keepsService (s.reportForward b t) :=
  (foldl (fun u e => u.fireEntry_keepsService b e) _ s).trans (of_blocks rfl rfl)

theorem State.jumpTo_keepsService (t : Nat) : s.keepsService (s.jumpTo t) := by
  have moved : s.keepsService ((s.setShowTime t).discardSlip) := of_blocks rfl rfl
  have reported := ite (c := s.scu.showTime < t) (moved.trans (State.reportForward_keepsService _ true t))
    (moved.trans (of_blocks (State.reportBackward_sli _ t) (State.reportBackward_rqd _ t)))
  exact (reported.trans (State.raise_keepsService _ _)).trans (State.count_keepsService _ _)

theorem State.relocate_keepsService (t : Nat) : s.keepsService (s.relocate t) := by
  have moved : s.keepsService ((s.setShowTime t).discardSlip) := of_blocks rfl rfl
  refine ite (s.jumpTo_keepsService t) (ite (moved.trans (State.reportForward_keepsService _ false t)) (ite ?_ moved))
  exact moved.trans (of_blocks rfl rfl)

theorem State.actOnMark_keepsService (m : Mark) : s.keepsService (s.actOnMark m) := by
  unfold State.actOnMark
  split
  · exact of_blocks (State.slipDecision_sli ..) (State.slipDecision_rqd ..)
  · exact (s.setRunning_keepsService true).trans (State.relocate_keepsService _ m.time)
  · exact ((s.setRunning_keepsService false).trans (State.relocate_keepsService _ m.time)).trans (of_blocks rfl rfl)
  · exact s.relocate_keepsService m.time

theorem State.enterLocked_keepsService (m : Mark) : s.keepsService (s.enterLocked m) := by
  have entered (l : Lock) : s.keepsService (s.enterLock l) := s.enterLock_keepsService l
  exact (ite ((entered _).trans (State.jumpTo_keepsService _ _)) (entered _)).trans (State.actOnMark_keepsService _ m)

theorem State.countBad_keepsService (r : Mark) (bad : Nat) (w : LocalTime) (c : Option Mark) (x : Option Slip) :
    s.keepsService (s.countBad r bad w c x) := ite (s.enterLock_keepsService _) (of_blocks rfl rfl)

theorem State.lockedMark_keepsService (m r : Mark) (bad : Nat) (c : Option Mark) (x : Option Slip) :
    s.keepsService (s.lockedMark m r bad c x) := by
  have locked (l : Lock) : s.keepsService (s.setLock l) := of_blocks rfl rfl
  exact ite (((locked _).trans (State.jumpTo_keepsService _ _)).trans (State.actOnMark_keepsService _ m))
    (ite ((locked _).trans (State.actOnMark_keepsService _ m)) (s.countBad_keepsService ..))

theorem State.takeMark_keepsService (m : Mark) : s.keepsService (s.takeMark m) := by
  unfold State.takeMark
  split
  · exact s.enterLock_keepsService _
  · exact s.enterLock_keepsService _
  · exact ite (s.enterLocked_keepsService m) (of_blocks rfl rfl)
  · exact s.lockedMark_keepsService ..

theorem State.takeFailedMark_keepsService : s.keepsService s.takeFailedMark := by
  unfold State.takeFailedMark
  split
  · exact s.countBad_keepsService ..
  all_goals exact refl s

theorem State.completeMark_keepsService (body : List Byte) : s.keepsService (s.completeMark body) :=
  ite ((s.count_keepsService _).trans (State.takeMark_keepsService _ _))
    ((s.count_keepsService _).trans (State.takeFailedMark_keepsService _))

theorem State.abandonMark_keepsService : s.keepsService s.abandonMark :=
  (of_blocks rfl rfl : s.keepsService (s.setMarkReceiver .hunting)).trans (State.count_keepsService _ _)

theorem State.syncByte_keepsService (b : Byte) : s.keepsService (s.syncByte b) := by
  have checked : s.keepsService s.checkMarkGap := by
    unfold State.checkMarkGap
    split
    · exact refl s
    · exact ite s.abandonMark_keepsService (refl s)
  unfold State.syncByte
  refine checked.trans ?_
  generalize s.checkMarkGap = u
  unfold State.takeSyncByte
  split
  · exact ite (of_blocks rfl rfl) (refl u)
  · refine ite (of_blocks rfl rfl) ?_
    exact (of_blocks rfl rfl : u.keepsService (u.setMarkReceiver .hunting)).trans (State.completeMark_keepsService _ _)

/-! ### The pass and the step expiry -/

theorem State.setPass_keepsService (p : Option Pass) : s.keepsService (s.setPass p) := of_blocks rfl rfl

theorem State.startPass_keepsService (t : LocalTime) (x : Option Sampling) : s.keepsService (s.startPass t x) :=
  s.setPass_keepsService _

theorem State.meetSampling_keepsService (p : Pass) (n : Nat) : s.keepsService (s.meetSampling p n).1 := by
  unfold State.meetSampling
  repeat' split
  · exact refl s
  · exact s.sampleSticks_keepsService _ _
  · exact refl s

theorem State.stored_keepsService (i : Fin 128) (f g : Fixture) : s.keepsService (s.stored i f g) := by
  have flagged : s.keepsService (s.raiseFlags i f.run g.run) :=
    (s.raiseFlag_keepsService ..).trans (State.raiseFlag_keepsService ..)
  exact flagged.trans (of_blocks (by simp [State.stored]) (s.stored_rqd i f g))

theorem State.evaluate_keepsService (p : Pass) (i : Fin 128) : s.keepsService (s.evaluate p i) := by
  unfold State.evaluate
  split
  · next f _ =>
    have asked (f : Fixture) : s.keepsService (s.asked p f) := by
      unfold State.asked
      split
      · exact s.updateTrackOnce_keepsService _ _
      · exact refl s
    rw [State.evaluateDefined_eq]
    exact (asked _).trans (State.stored_keepsService ..)
  · exact refl s

theorem State.evaluateNext_keepsService (p : Pass) : s.keepsService (s.evaluateNext p) := by
  unfold State.evaluateNext
  split
  · exact refl s
  · exact ((s.meetSampling_keepsService p _).trans (State.evaluate_keepsService _ _ _)).trans (State.setPass_keepsService _ _)

theorem State.evaluateRest_keepsService (n : Nat) : s.keepsService (s.evaluateRest n) := by
  induction n generalizing s with
  | zero => exact refl s
  | succ n ih =>
    unfold State.evaluateRest
    split
    · exact ite ((s.evaluateNext_keepsService _).trans (ih _)) (refl s)
    · exact refl s

theorem State.completePass_keepsService : s.keepsService s.completePass := by
  have closed (u : State) (t : LocalTime) : u.keepsService (((u.updateRemaining t).swapImages).setPass none) :=
    (u.updateRemaining_keepsService t).trans ((of_blocks (State.swapImages_sli _) (State.swapImages_rqd _)).trans
      (State.setPass_keepsService _ none))
  unfold State.completePass
  dsimp only
  repeat' split
  · exact refl s
  · exact (s.sampleSticks_keepsService _ _).trans (closed _ _)
  · exact closed s _

theorem State.finishPass_keepsService : s.keepsService s.finishPass :=
  (s.evaluateRest_keepsService 128).trans (State.completePass_keepsService _)

theorem State.advanceShow_keepsService (n : Nat) : s.keepsService (s.advanceShow n) := by
  have slipped : s.keepsService s.discardSlip := of_blocks rfl rfl
  unfold State.advanceShow
  refine ite ?_ slipped
  split
  · exact of_blocks rfl rfl
  · exact ((slipped.trans (State.count_keepsService _ _)).trans (State.raise_keepsService _ _)).trans (of_blocks rfl rfl)

theorem State.expire_keepsService (t : LocalTime) : s.keepsService (s.expire t) := by
  have stepped : s.keepsService s.nextStep := of_blocks rfl rfl
  exact ((stepped.trans (State.advanceShow_keepsService _ _)).trans (State.reportForward_keepsService _ _ _)).trans
    (State.updateMemberless_keepsService _ t)

theorem State.expireWith_keepsService (t : LocalTime) (adc : Readings) (n : Nat) : s.keepsService (s.expireWith t adc n) := by
  have read : s.keepsService (s.setInputs adc) := of_blocks rfl rfl
  cases n with
  | zero =>
    exact ((read.trans (State.sampleSticks_keepsService _ _ _)).trans (State.expire_keepsService _ t)).trans
      (State.startPass_keepsService _ _ _)
  | succ n => exact (read.trans (State.expire_keepsService _ t)).trans (State.startPass_keepsService _ _ _)

theorem State.completeEmptyPass_keepsService : s.keepsService s.completeEmptyPass := ite s.completePass_keepsService (refl s)

end

end Sys2Proof.Machine

/-! ## The bounds of the link through every command -/

namespace Sys2Proof.Machine

/-! ### The invariant and the reply places (R177 to R179) -/

/-- The bounds of the link together with a request in progress while one waits. -/
def State.linkOk (s : State) : Prop := s.linkBounded ∧ s.serviceOk

theorem unicasts_append (a b : List LinkRequest) : unicasts (a ++ b) = unicasts a + unicasts b := by
  simp [unicasts]

theorem unicasts_cons (r : LinkRequest) (l : List LinkRequest) :
    unicasts (r :: l) = (if r.request.broadcast then 0 else 1) + unicasts l := by
  cases h : r.request.broadcast <;> simp [unicasts, h, Nat.add_comm]

@[simp] theorem unicasts_nil : unicasts [] = 0 := rfl

theorem unicasts_perm {a b : List LinkRequest} (h : a.Perm b) : unicasts a = unicasts b := (h.filter _).length_eq

namespace State.keepsService

variable {s t : State} (h : s.keepsService t)
include h

theorem placesHeld : t.placesHeld = s.placesHeld := by
  rw [State.placesHeld, h.normal, h.urgent, h.inProgress, h.replies, State.placesHeld]

theorem linkBounded (hs : s.linkBounded) : t.linkBounded := by
  obtain ⟨hnormal, hurgent, hnotices, hlost, hplaces⟩ := hs
  refine ⟨h.normal ▸ hnormal, h.urgent ▸ hurgent, (h.notices ⟨hnotices, hlost⟩).1, (h.notices ⟨hnotices, hlost⟩).2, ?_⟩
  rwa [h.placesHeld]

theorem serviceOk (hs : s.serviceOk) : t.serviceOk := by
  unfold State.serviceOk
  rw [h.inProgress, h.normal, h.urgent]
  exact hs

theorem linkOk (hs : s.linkOk) : t.linkOk := ⟨h.linkBounded hs.1, h.serviceOk hs.2⟩

end State.keepsService

open State.keepsService

/-! ### The RQD's own operations -/

section
variable {s : State}

/-- Where the RQD can begin a request it does, so that afterwards none waits alone (R179). -/
theorem State.beginNext_serviceOk (s : State) : s.beginNext.serviceOk := by
  unfold State.beginNext
  split
  · exact nofun
  · exact nofun
  · next hurgent hnormal =>
    intro hprogress
    cases hu : s.rqd.urgent with
    | cons r rest => exact absurd hu (hurgent r rest hprogress)
    | nil =>
      cases hn : s.rqd.normal with
      | cons r rest => exact absurd hn (hnormal r rest hprogress hu)
      | nil => exact ⟨rfl, rfl⟩

/-- The beginning of a request takes it out of its lane, and its reply place with it. -/
theorem State.beginNext_linkBounded (h : s.linkBounded) : s.beginNext.linkBounded := by
  obtain ⟨hnormal, hurgent, hnotices, hlost, hplaces⟩ := h
  simp only [State.placesHeld] at hplaces
  unfold State.beginNext
  split
  · next r rest hp hu =>
    rw [hu, List.length_cons] at hurgent
    rw [hp, hu, unicasts_cons, Option.toList_none, unicasts_nil] at hplaces
    refine ⟨hnormal, Nat.le_of_succ_le hurgent, hnotices, hlost, ?_⟩
    simp only [State.placesHeld, Option.toList_some, unicasts_cons, unicasts_nil]
    omega
  · next r rest hp hu hn =>
    rw [hn, List.length_cons] at hnormal
    rw [hp, hn, unicasts_cons, Option.toList_none, unicasts_nil] at hplaces
    refine ⟨Nat.le_of_succ_le hnormal, hurgent, hnotices, hlost, ?_⟩
    simp only [State.placesHeld, Option.toList_some, unicasts_cons, unicasts_nil]
    omega
  · exact ⟨hnormal, hurgent, hnotices, hlost, hplaces⟩

theorem State.beginNext_linkOk (h : s.linkBounded) : s.beginNext.linkOk :=
  ⟨State.beginNext_linkBounded h, State.beginNext_serviceOk s⟩

/-- A request joins a lane with room; a unicast needs a free reply place too (R177, R178). -/
theorem State.joinLane_linkBounded (h : s.linkBounded) {r : LinkRequest} (hroom : s.laneHasRoom r = true)
    (hplace : r.request.broadcast = true ∨ s.placesHeld < 16) : (s.joinLane r).linkBounded := by
  obtain ⟨hnormal, hurgent, hnotices, hlost, hplaces⟩ := h
  have held : unicasts [r] + s.placesHeld ≤ 16 := by
    rw [unicasts_cons, unicasts_nil]
    obtain hb | hb := hplace
    · rwa [hb, if_pos rfl, Nat.zero_add]
    · split <;> omega
  simp only [State.placesHeld] at held
  unfold State.laneHasRoom at hroom
  unfold State.joinLane
  split
  · next hlane =>
    rw [if_pos hlane, decide_eq_true_eq] at hroom
    refine ⟨hnormal, ?_, hnotices, hlost, ?_⟩
    · rwa [List.length_append]
    · simp only [State.placesHeld, unicasts_append]
      omega
  · next hlane =>
    rw [if_neg hlane, decide_eq_true_eq] at hroom
    refine ⟨?_, hurgent, hnotices, hlost, ?_⟩
    · rwa [List.length_append]
    · simp only [State.placesHeld, unicasts_append]
      omega

/-- A built reply needs a free place (R177). -/
theorem State.pushReply_linkBounded (h : s.linkBounded) (hplace : s.placesHeld < 16) (r : Reply) :
    (s.pushReply r).linkBounded := by
  obtain ⟨hnormal, hurgent, hnotices, hlost, -⟩ := h
  refine ⟨hnormal, hurgent, hnotices, hlost, ?_⟩
  simp only [State.placesHeld, State.pushReply_rqd, State.pushReply_sli, List.length_append, List.length_singleton] at hplace ⊢
  omega

theorem State.takeIn_linkOk (h : s.linkOk) (r : LinkRequest) : (s.takeIn r).linkOk := by
  unfold State.takeIn
  split
  · next hbroadcast =>
    split
    · next hroom => exact State.beginNext_linkOk (State.joinLane_linkBounded h.1 hroom (.inl hbroadcast))
    · exact ((s.count_keepsService _).trans (State.raise_keepsService _ _)).linkOk h
  · split
    · exact (s.count_keepsService _).linkOk h
    · next hplace =>
      have free : s.placesHeld < 16 := Nat.lt_of_not_le hplace
      split
      · next hroom => exact State.beginNext_linkOk (State.joinLane_linkBounded h.1 hroom (.inr free))
      · have counted := (s.count_keepsService Stats.addBusy).linkOk h
        exact ⟨State.pushReply_linkBounded counted.1 free _, counted.2⟩

/-- The request in progress leaves, and its reply place with it. -/
theorem State.dropRequest_linkBounded (h : s.linkBounded) : s.dropRequest.linkBounded := by
  obtain ⟨hnormal, hurgent, hnotices, hlost, hplaces⟩ := h
  refine ⟨hnormal, hurgent, hnotices, hlost, ?_⟩
  simp only [State.placesHeld, State.dropRequest_rqd, State.dropRequest_sli, Option.toList_none, unicasts_nil] at hplaces ⊢
  omega

/-- A unicast in progress has reserved the place its reply is built in (R177). -/
theorem State.dropRequest_placesHeld {r : LinkRequest} (h : s.linkBounded) (hr : s.rqd.inProgress = some r)
    (hunicast : ¬r.request.broadcast = true) : s.dropRequest.placesHeld < 16 := by
  obtain ⟨-, -, -, -, hplaces⟩ := h
  simp only [State.placesHeld, hr, Option.toList_some, unicasts_cons, unicasts_nil, if_neg hunicast] at hplaces
  simp only [State.placesHeld, State.dropRequest_rqd, State.dropRequest_sli, Option.toList_none, unicasts_nil]
  omega

theorem State.dropRequest_replied_linkBounded {r : LinkRequest} (h : s.linkBounded) (hr : s.rqd.inProgress = some r)
    (x : Reply) : (if r.request.broadcast then s.dropRequest else s.dropRequest.pushReply x).linkBounded := by
  have dropped := State.dropRequest_linkBounded h
  split
  · exact dropped
  · next hunicast => exact State.pushReply_linkBounded dropped (State.dropRequest_placesHeld h hr hunicast) x

theorem State.complete_linkOk {r : LinkRequest} (h : s.linkBounded) (hr : s.rqd.inProgress = some r) (a : Answer) :
    (s.complete r a).linkOk := by
  have replied := State.dropRequest_replied_linkBounded h hr (replyTo r a)
  unfold State.complete
  split at replied
  · next hb => rw [if_pos hb]; exact State.beginNext_linkOk replied
  · next hb => rw [if_neg hb]; exact State.beginNext_linkOk replied

theorem State.present_linkOk (h : s.linkOk) (r : LinkRequest) : (s.present r).linkOk := by
  unfold State.present
  split
  · exact h
  · exact State.takeIn_linkOk h r

theorem State.serve_linkOk {kind : Byte} {q : Request} {body : State → State × Answer}
    (hbody : ∀ u : State, u.keepsService (body u).1) (h : s.linkOk) : (s.serve kind q body).linkOk := by
  have presented := State.present_linkOk h { kind := kind, request := q }
  unfold State.serve
  dsimp only
  split
  · next hr =>
    have done := hbody (s.present { kind := kind, request := q })
    exact State.complete_linkOk (done.linkBounded presented.1) (done.inProgress.trans hr) _
  · exact presented

/-- A reply sent frees its place. -/
theorem State.finishReply_linkOk (h : s.linkOk) : s.finishReply.linkOk := by
  obtain ⟨⟨hnormal, hurgent, hnotices, hlost, hplaces⟩, hservice⟩ := h
  refine ⟨⟨hnormal, hurgent, hnotices, hlost, ?_⟩, hservice⟩
  have sent : s.finishReply.sli.replies.length ≤ s.sli.replies.length := (List.drop_sublist ..).length_le
  exact Nat.le_trans (Nat.add_le_add_left sent _) hplaces

/-! ### Frames on the link -/

theorem State.setReceiver_keepsService (s : State) (r : Receiver) : s.keepsService (s.setReceiver r) :=
  ⟨rfl, rfl, rfl, rfl, id⟩

theorem State.judgeFrame_linkOk (h : s.linkOk) (buffer : List Byte) (escaped overlong : Bool) :
    (s.judgeFrame buffer escaped overlong).linkOk := by
  have counted (f : Stats → Stats) : (s.count f).linkOk := (s.count_keepsService f).linkOk h
  unfold State.judgeFrame State.acceptFrame
  dsimp only
  repeat' split
  · exact counted _
  · exact counted _
  · exact h
  · exact counted _
  · exact counted _
  · exact State.takeIn_linkOk (counted _) _
  · exact State.takeIn_linkOk (counted _) _
  · exact h

theorem State.linkByte_linkOk (h : s.linkOk) (b : Byte) : (s.linkByte b).linkOk := by
  have received (u : State) (hu : u.linkOk) (r : Receiver) : (u.setReceiver r).linkOk :=
    (u.setReceiver_keepsService r).linkOk hu
  unfold State.linkByte
  repeat' split
  · exact received s h _
  · exact h
  · exact received _ (State.judgeFrame_linkOk h _ _ _) _
  all_goals exact received s h _

/-! ### RESTART and the image loads -/

/-- The requests turned away by a RESTART take up the places they reserved, and leave the lanes as they are (R181). -/
theorem State.turnAway_foldl (l : List LinkRequest) (s : State) :
    (l.foldl State.turnAway s).sli.replies.length = s.sli.replies.length + unicasts l ∧
      (l.foldl State.turnAway s).rqd.inProgress = s.rqd.inProgress := by
  induction l generalizing s with
  | nil => exact ⟨rfl, rfl⟩
  | cons r l ih =>
    obtain ⟨hreplies, hprogress⟩ := ih (s.turnAway r)
    rw [List.foldl_cons, hreplies, hprogress, unicasts_cons]
    unfold State.turnAway
    split
    · exact ⟨by omega, rfl⟩
    · refine ⟨?_, rfl⟩
      rw [State.pushReply_sli, State.count_sli, List.length_append, List.length_singleton]
      omega

/-- With empty lanes and no request in progress, only the built replies hold places. -/
theorem State.linkOk_of_idle (hnormal : s.rqd.normal = []) (hurgent : s.rqd.urgent = []) (hprogress : s.rqd.inProgress = none)
    (hnotices : s.rqd.noticesBounded) (hreplies : s.sli.replies.length ≤ 16) : s.linkOk := by
  refine ⟨⟨?_, ?_, hnotices.1, hnotices.2, ?_⟩, fun _ => ⟨hnormal, hurgent⟩⟩
  · rw [hnormal]
    exact Nat.zero_le _
  · rw [hurgent]
    exact Nat.zero_le _
  · rw [State.placesHeld, hnormal, hurgent, hprogress]
    simpa using hreplies

/-- RESTART answers every request that waits, in the places they hold, and empties lanes and notices (R181, R182, R194). -/
theorem State.restart_linkOk (h : s.linkBounded) (hprogress : s.rqd.inProgress = none) : s.restart.linkOk := by
  obtain ⟨-, -, -, -, hplaces⟩ := h
  have emptied : s.emptyLanes.emptyNotices.linkOk := by
    obtain ⟨hreplies, hdone⟩ := State.turnAway_foldl (s.rqd.waitingRequests s.scu.timeUs) s
    refine State.linkOk_of_idle rfl rfl (hdone.trans hprogress) ⟨Nat.zero_le _, Nat.zero_le _⟩ ?_
    have waiting : unicasts (s.rqd.waitingRequests s.scu.timeUs) = unicasts s.rqd.normal + unicasts s.rqd.urgent :=
      (unicasts_perm (mergeLanes_perm ..)).trans (unicasts_append ..)
    simp only [State.placesHeld, hprogress, Option.toList_none, unicasts_nil] at hplaces
    change (List.foldl State.turnAway s _).sli.replies.length ≤ 16
    rw [hreplies, waiting]
    omega
  refine State.keepsService.linkOk ?_ emptied
  unfold State.restart
  dsimp only
  generalize s.emptyLanes.emptyNotices = u
  have rested : u.keepsService (((((u.abortBuild.resetRuntimes).restUnits).restClock).setMarkReceiver .hunting)) :=
    of_blocks (by simp) (by simp)
  refine rested.trans ?_
  generalize ((((u.abortBuild.resetRuntimes).restUnits).restClock).setMarkReceiver .hunting) = v
  have placed : v.keepsService (v.setCursor (cursorAt v.pbu.timeline 0)) := of_blocks rfl rfl
  exact (placed.trans (State.rearmLines_keepsService _)).trans (State.rebuildImages_keepsService _)

theorem State.serveRestart_linkOk (h : s.linkOk) (q : Request) : (s.serveRestart q).linkOk := by
  have presented := State.present_linkOk h { kind := 0x05, request := q }
  unfold State.serveRestart
  dsimp only
  split
  · next hr =>
    split
    · exact State.complete_linkOk presented.1 hr _
    · refine State.restart_linkOk (State.dropRequest_replied_linkBounded presented.1 hr _) ?_
      split <;> rfl
  · exact presented

/-- An image load leaves the link empty (R181, R182). -/
theorem State.startUp_linkOk (s : State) (straps : BitVec 4) : (s.startUp straps).linkOk := by
  have loaded (w : ShowImage) (valid : Bool) : (s.loadShow w valid straps).linkOk :=
    State.linkOk_of_idle rfl rfl rfl ⟨Nat.zero_le _, Nat.zero_le _⟩ (Nat.zero_le _)
  have rearmed (u : State) : u.keepsService u.rearmLines.rebuildImages :=
    u.rearmLines_keepsService.trans (State.rebuildImages_keepsService _)
  unfold State.startUp
  refine (rearmed _).linkOk ?_
  split
  · exact loaded _ _
  · exact (State.raise_keepsService _ _).linkOk (loaded _ _)

end

/-! ### The service of a request -/

/-- The next state of an outcome, if it has one, has its link in order where `s` has. -/
def State.outcomeKeepsLink (s : State) (o : Host.Outcome State Fault Refusal) : Prop := ∀ t, o = .next t → s.linkOk → t.linkOk

theorem State.keepsLink_next {s t : State} (h : s.linkOk → t.linkOk) : s.outcomeKeepsLink (.next t) := by
  rintro _ ⟨⟩
  exact h

theorem State.keepsLink_event {s t : State} (h : s.keepsService t) : s.outcomeKeepsLink (.next t) :=
  State.keepsLink_next h.linkOk

section
variable {kind : Byte} {q : Request} {checks : State → List (Bool × Status)} {effect : State → State × Answer}

theorem State.keepsLink_request (h : ∀ u : State, u.keepsService (effect u).1) (s : State) :
    s.outcomeKeepsLink (.next (s.serve kind q (changeBody checks effect))) := by
  refine State.keepsLink_next (State.serve_linkOk fun u => ?_)
  cases hc : firstFailing (checks u) with
  | none => rw [changeBody_accepted hc]; exact h u
  | some st => rw [changeBody_refused hc]; exact refl u

theorem State.keepsLink_request_of_blocks (hsli : ∀ u, (effect u).1.sli = u.sli) (hrqd : ∀ u, (effect u).1.rqd = u.rqd)
    (s : State) : s.outcomeKeepsLink (.next (s.serve kind q (changeBody checks effect))) :=
  State.keepsLink_request (fun u => of_blocks (hsli u) (hrqd u)) s

end

/-! ### Requests with effects of several cases -/

section
variable (s : State)

theorem State.pollNotices_keepsService (broadcast : Bool) : s.keepsService (s.pollNotices broadcast).1 := by
  unfold State.pollNotices
  split
  · exact refl s
  · exact ⟨rfl, rfl, rfl, rfl, fun h => ⟨(List.drop_sublist ..).length_le.trans h.1, Nat.zero_le _⟩⟩

theorem State.takeStats_keepsService (clear : Bool) : s.keepsService (s.takeStats clear).1 :=
  ite ⟨rfl, rfl, rfl, rfl, id⟩ (refl s)

theorem State.clearShow_keepsService : s.keepsService s.clearShow := by
  have emptied : s.keepsService s.emptyShow.restClock := of_blocks rfl rfl
  exact (emptied.trans (State.rearmLines_keepsService _)).trans (State.rebuildImages_keepsService _)

theorem State.setFixtureSlots_keepsService (i : Fin 128) (o : Nat) (values : List Byte) :
    s.keepsService (s.setFixtureSlots i o values) := by
  unfold State.setFixtureSlots
  split
  · exact refl s
  · exact of_blocks rfl rfl

theorem State.bindTrack_keepsService (k : Fin 4) (g : Nat) : s.keepsService (s.bindTrack k g).1 := by
  unfold State.bindTrack
  dsimp only
  split <;> exact of_blocks (by simp) (by simp)

theorem State.appendPoints_keepsService (k : Fin 4) (entries : List SentEntry) :
    s.keepsService (s.appendPoints k entries).1 := by
  have moved (t : Track) : s.keepsService (s.setTrack k t) := of_blocks rfl rfl
  exact ite ((moved _).trans (State.raise_keepsService _ _)) (moved _)

theorem State.centreStick_keepsService (i : Fin 2) (r : Readings) : s.keepsService (s.centreStick i r).1 := by
  have read : s.keepsService (s.setInputs r) := of_blocks rfl rfl
  have converted (x y : Nat) := read.trans (State.convert_keepsService _ i x y)
  unfold State.centreStick
  dsimp only
  split
  · exact converted _ _
  · exact (converted _ _).trans (of_blocks rfl rfl)

theorem State.sampleOnce_keepsService (i : Fin 2) (r : Readings) : s.keepsService (s.sampleOnce i r).1 := by
  have read : s.keepsService (s.setInputs r) := of_blocks rfl rfl
  exact read.trans (State.convert_keepsService ..)

theorem State.setLine_keepsService (l : Fin 8) (p : List Byte) : s.keepsService (s.setLine l p).1 := by
  have set : s.keepsService (s.modifyLine l fun x => x.withSettings p) := of_blocks rfl rfl
  exact ite set (set.trans (State.settleLine_keepsService _ l))

theorem execClearShow_link (q : Request) : s.outcomeKeepsLink (execClearShow q s) := by
  unfold execClearShow
  refine State.keepsLink_request (fun u => ?_) s
  exact u.clearShow_keepsService

/-! ### Events -/

theorem execFrameReceived_link (bytes : List Byte) : s.outcomeKeepsLink (execFrameReceived bytes s) :=
  State.keepsLink_next fun h => List.foldlRecOn _ _ h fun _ hu b _ => State.linkByte_linkOk hu b

theorem execFrameAbandoned_link : s.outcomeKeepsLink (execFrameAbandoned s) := by
  have hunting (f : Stats → Stats) := (s.setReceiver_keepsService .hunt).trans (State.count_keepsService _ f)
  unfold execFrameAbandoned
  split
  · exact State.keepsLink_event (refl s)
  · exact State.keepsLink_event (hunting _)
  · exact State.keepsLink_event (hunting _)

theorem execReplySent_link : s.outcomeKeepsLink (execReplySent s) := by
  unfold execReplySent
  split
  · exact State.keepsLink_event (refl s)
  · exact State.keepsLink_next State.finishReply_linkOk

theorem execUnknownKind_link (kind : Byte) (q : Request) : s.outcomeKeepsLink (execUnknownKind kind q s) := by
  unfold execUnknownKind
  split
  · exact State.keepsLink_event (refl s)
  · exact State.keepsLink_next (State.serve_linkOk fun u => refl u)

theorem execSaveCompletion_link (matched : Bool) : s.outcomeKeepsLink (execSaveCompletion matched s) := by
  unfold execSaveCompletion
  split
  · next image _ =>
    have ended (i : Ims) : s.keepsService { s with ims := i } := of_blocks rfl rfl
    exact State.keepsLink_event ((ended _).trans (State.raise_keepsService _ _))
  · exact State.keepsLink_event (refl s)

theorem execMarkAbandoned_link : s.outcomeKeepsLink (execMarkAbandoned s) := by
  unfold execMarkAbandoned
  split
  · exact State.keepsLink_event (refl s)
  · exact State.keepsLink_event s.abandonMark_keepsService

theorem execConfirmDeadline_link : s.outcomeKeepsLink (execConfirmDeadline s) := by
  have reached (n : Nat) : s.keepsService (s.advanceTo n) := of_blocks rfl rfl
  unfold execConfirmDeadline
  split
  · exact State.keepsLink_event ((reached _).trans (State.enterLock_keepsService _ _))
  all_goals exact State.keepsLink_event (refl s)

theorem execWatchDeadline_link : s.outcomeKeepsLink (execWatchDeadline s) := by
  have reached (n : Nat) : s.keepsService (s.advanceTo n) := of_blocks rfl rfl
  unfold execWatchDeadline
  split
  · exact State.keepsLink_event ((reached _).trans (State.countBad_keepsService ..))
  all_goals exact State.keepsLink_event (refl s)

theorem execFrameStart_link (l : Fin 8) : s.outcomeKeepsLink (execFrameStart l s) := by
  unfold execFrameStart
  split
  · exact State.keepsLink_event (of_blocks rfl rfl)
  · exact State.keepsLink_event (refl s)

theorem execFrameSent_link (l : Fin 8) : s.outcomeKeepsLink (execFrameSent l s) := by
  unfold execFrameSent
  split
  · have sent (n : Nat) (g : Line → Line) : s.keepsService ((s.advanceTo n).modifyLine l g) := of_blocks rfl rfl
    exact State.keepsLink_event ((sent _ _).trans (State.settleLine_keepsService _ l))
  · exact State.keepsLink_event (refl s)

theorem execFaultInputAsserted_link (l : Fin 8) : s.outcomeKeepsLink (execFaultInputAsserted l s) := by
  have asserted (g : Line → Line) : s.keepsService (s.modifyLine l g) := of_blocks rfl rfl
  unfold execFaultInputAsserted
  dsimp only
  split
  · exact State.keepsLink_event ((asserted _).trans (State.enterFault_keepsService _ l))
  · exact State.keepsLink_event ((asserted _).trans (State.enterFault_keepsService _ l))
  · exact State.keepsLink_event (asserted _)
  · exact State.keepsLink_event (asserted _)

theorem execFixtureEvaluation_link : s.outcomeKeepsLink (execFixtureEvaluation s) := by
  unfold execFixtureEvaluation
  split
  · exact State.keepsLink_event (s.evaluateNext_keepsService _)
  · exact State.keepsLink_event (refl s)

theorem execStepExpiry_link (adc : Readings) (sampling : Nat) : s.outcomeKeepsLink (execStepExpiry adc sampling s) := by
  have reached (u : State) (n : Nat) : u.keepsService (u.advanceTo n) := of_blocks rfl rfl
  exact State.keepsLink_event (((s.finishPass_keepsService.trans (reached _ _)).trans
    (State.expireWith_keepsService _ _ adc sampling)).trans (State.completeEmptyPass_keepsService _))

end

/-! ### Every command and every step -/

theorem exec_link (c : Instr) (s : State) : s.outcomeKeepsLink (exec c s) := by
  cases c with
  | powerOn straps | resetPin straps => exact State.keepsLink_next fun _ => s.startUp_linkOk straps
  | restart q => exact State.keepsLink_next fun h => State.serveRestart_linkOk h q
  | clearShow q => exact execClearShow_link s q
  | unitQuery q | profileRead q | fixtureRead q | groupRead q | zoneRead q | fixtureQuery q | cueRead q | clockQuery q
  | timelineRead q | trackQuery q | stickQuery q | lineQuery q | lineImage q | save q | profileLoad q | profileRemove q
  | zoneSet q | clockSet q | stickSet q | stickZero q | linePin q | lineStatic q | timelineAdd q | timelineRemove q =>
    exact State.keepsLink_request_of_blocks (fun _ => rfl) (fun _ => rfl) s
  | aim q | tint q | level q | park q | stop q | douse q | release q =>
    exact State.keepsLink_request_of_blocks (fun u => u.changeSelected_sli q _) (fun u => u.changeSelected_rqd q _) s
  | fixtureDefine q =>
    exact State.keepsLink_request_of_blocks (fun u => by rw [State.defineFixture_eq])
      (fun u => by rw [State.defineFixture_eq]) s
  | fixtureRemove q =>
    exact State.keepsLink_request_of_blocks (fun u => by rw [State.removeFixture_eq])
      (fun u => by rw [State.removeFixture_eq]) s
  | fixtureSlots q => exact State.keepsLink_request (fun u => u.setFixtureSlots_keepsService ..) s
  | groupSet q =>
    exact State.keepsLink_request_of_blocks (fun u => by rw [State.setGroup_eq]) (fun u => by rw [State.setGroup_eq]) s
  | go q => exact State.keepsLink_request_of_blocks (fun u => Firing.walk_sli ..) (fun u => Firing.walk_rqd ..) s
  | cueOpen q =>
    exact State.keepsLink_request_of_blocks (fun u => by rw [State.openCue_eq]) (fun u => by rw [State.openCue_eq]) s
  | cuePart q =>
    refine State.keepsLink_request (fun u => ?_) s
    split
    · exact of_blocks rfl rfl
    · exact of_blocks u.abortBuild_sli u.abortBuild_rqd
  | cueDelete q =>
    exact State.keepsLink_request_of_blocks (fun u => by rw [State.deleteCue_eq]) (fun u => by rw [State.deleteCue_eq]) s
  | showTime q =>
    exact State.keepsLink_request (fun u => (u.jumpTo_keepsService _).trans (State.setRunning_keepsService _ _)) s
  | noticePoll q => exact State.keepsLink_request (fun u => u.pollNotices_keepsService _) s
  | stats q => exact State.keepsLink_request (fun u => u.takeStats_keepsService _) s
  | trackBind q => exact State.keepsLink_request (fun u => u.bindTrack_keepsService _ _) s
  | trackPoints q => exact State.keepsLink_request (fun u => u.appendPoints_keepsService _ _) s
  | trackRelease q =>
    exact State.keepsLink_request_of_blocks (fun u => u.releaseTrack_sli _) (fun u => u.releaseTrack_rqd _) s
  | stickCentre q adc => exact State.keepsLink_request (fun u => u.centreStick_keepsService _ _) s
  | stickSample q adc => exact State.keepsLink_request (fun u => u.sampleOnce_keepsService _ _) s
  | lineSet q => exact State.keepsLink_request (fun u => u.setLine_keepsService _ _) s
  | unknownKind kind q => exact execUnknownKind_link s kind q
  | frameReceived bytes => exact execFrameReceived_link s bytes
  | frameAbandoned => exact execFrameAbandoned_link s
  | replySent => exact execReplySent_link s
  | saveCompletion matched => exact execSaveCompletion_link s matched
  | markReceived bytes => exact State.keepsLink_event (foldl State.syncByte_keepsService bytes s)
  | markAbandoned => exact execMarkAbandoned_link s
  | confirmDeadline => exact execConfirmDeadline_link s
  | watchDeadline => exact execWatchDeadline_link s
  | frameStart line => exact execFrameStart_link s line
  | frameSent line => exact execFrameSent_link s line
  | faultInputAsserted line => exact execFaultInputAsserted_link s line
  | faultInputReleased line => exact State.keepsLink_event (of_blocks rfl rfl)
  | fixtureEvaluation => exact execFixtureEvaluation_link s
  | passCompletion => exact State.keepsLink_event s.finishPass_keepsService
  | stepExpiry adc sampling => exact execStepExpiry_link s adc sampling

/-- Settles O17: every command keeps the link in order, and time that passes leaves it alone. -/
theorem linkStaysBounded : Obligations.LinkStaysBounded := by
  intro s t hbounded hservice ht
  have passed (u : State) (hsli : u.sli = s.sli) (hrqd : u.rqd = s.rqd) : u.linkOk :=
    (of_blocks hsli hrqd).linkOk ⟨hbounded, hservice⟩
  unfold step at ht
  split at ht
  · next c rest _ => exact exec_link c _ t ht (passed (s.withPending rest) rfl rfl)
  · unfold State.idle at ht
    dsimp only at ht
    split at ht
    · exact exec_link _ s t ht ⟨hbounded, hservice⟩
    · cases ht
      exact passed _ rfl rfl

end Sys2Proof.Machine

/-! ## Every command completes -/

namespace Sys2Proof.Machine

theorem State.startUp_pending (s : State) (straps : BitVec 4) : (s.startUp straps).pending = s.pending := by
  unfold State.startUp
  dsimp only
  split <;> simp [State.loadShow]

/-- An outcome that answers a next state. -/
def completes (o : Host.Outcome State Fault Refusal) : Prop := ∃ t, o = .next t

theorem completes_next (t : State) : completes (.next t) := ⟨t, rfl⟩

/-- A request is served, whatever stands before it: only events go by cases. -/
theorem exec_completes (c : Instr) (s : State) : completes (exec c s) := by
  cases c with
  | unknownKind kind q | replySent | saveCompletion matched | fixtureEvaluation | markAbandoned | confirmDeadline
  | watchDeadline | frameStart line | frameSent line | faultInputAsserted line | frameAbandoned =>
    simp only [exec, execUnknownKind, execReplySent, execSaveCompletion, execFixtureEvaluation, execMarkAbandoned,
      execConfirmDeadline, execWatchDeadline, execFrameStart, execFrameSent, execFaultInputAsserted, execFrameAbandoned]
    split <;> exact completes_next _
  | _ => exact ⟨_, rfl⟩

/-- The next state of a command has the queue as it was: an image load keeps it, and so does every other command. -/
theorem exec_pending {c : Instr} {s t : State} (ht : exec c s = .next t) : t.pending = s.pending := by
  cases hl : c.loadsImage with
  | false => exact (exec_keepsAngles c s hl t ht).1
  | true =>
    cases c with
    | powerOn straps | resetPin straps => exact Host.Outcome.next.inj ht ▸ s.startUp_pending straps
    | _ => cases hl

theorem step_completes (s : State) : completes (step s) := by
  unfold step
  split
  · exact exec_completes _ _
  · unfold State.idle
    dsimp only
    split
    · exact exec_completes _ _
    · exact completes_next _

/-- Settles O2: every arm of `exec` answers a next state, and keeps the queue. -/
theorem everyCommandCompletes : Obligations.EveryCommandCompletes := by
  refine ⟨fun c s => ?_, step_completes⟩
  obtain ⟨t, ht⟩ := exec_completes c s
  exact ⟨t, ht, exec_pending ht⟩

/-- Settles O1, by the definition of a step on a queue that is not empty. -/
theorem stepRunsFrontCommand : Obligations.StepRunsFrontCommand := by
  intro s c rest hpending
  rw [step, hpending]

end Sys2Proof.Machine

/-! ## The show link -/

namespace Sys2Proof.Machine

/-! ### The CRC of a frame (R175) -/

section
variable {w : Nat} (poly c : BitVec w)

/-- A check that is fed its own top bit is shifted and nothing more. -/
theorem crcBit_msb : crcBit poly c c.msb = c <<< 1 := by simp [crcBit]

end

/-- A check of 16 bits that is fed a byte with its own top eight bits is shifted by a byte and nothing more. -/
theorem crcByte_of_top (poly c : BitVec 16) (b : Byte) (h : ∀ i < 8, b.getMsbD i = c.getMsbD i) :
    crcByte poly c b = c <<< 8 := by
  have fed (n : Nat) (hn : n ≤ 8) :
      (List.range n).foldl (fun c i => crcBit poly c (b.getMsbD i)) c = c <<< n := by
    induction n with
    | zero => simp
    | succ n ih =>
      have top : b.getMsbD n = (c <<< n).msb := by
        rw [h n hn, BitVec.msb, BitVec.getMsbD_shiftLeft, Nat.zero_add]
      rw [List.range_succ, List.foldl_append, ih (Nat.le_of_succ_le hn), List.foldl_cons, List.foldl_nil, top, crcBit_msb,
        ← BitVec.shiftLeft_add]
  exact fed 8 (Nat.le_refl 8)

/-- The high byte of a check holds its top eight bits, and the low byte those that follow. -/
theorem byteOf_getMsbD (c : BitVec 16) (i : Nat) (hi : i < 8) :
    (byteOf (c.toNat / 256)).getMsbD i = c.getMsbD i ∧ (byteOf c.toNat).getMsbD i = (c <<< 8).getMsbD i := by
  constructor
  · have small : c.toNat / 256 < 256 := by omega
    have shifted : (c.toNat / 256).testBit (7 - i) = c.toNat.testBit (15 - i) := by
      rw [show 256 = 2 ^ 8 by rfl, Nat.testBit_div_two_pow]
      congr 1
      omega
    simp [byteOf, BitVec.getMsbD, BitVec.getLsbD, hi, Nat.lt_of_lt_of_le hi, Nat.mod_eq_of_lt small, shifted]
  · simp [byteOf, BitVec.getMsbD_shiftLeft]

/-- Content with its CRC appended passes the check (R175). -/
theorem crc16_withCrc (content : List Byte) : crc16 (withCrc content) = 0 := by
  have extend (front back : List Byte) : crc16 (front ++ back) = back.foldl (crcByte 0x8005#16) (crc16 front) :=
    List.foldl_append ..
  rw [withCrc, extend]
  generalize crc16 content = c
  simp only [be16, List.foldl_cons, List.foldl_nil]
  rw [crcByte_of_top _ c _ fun i hi => (byteOf_getMsbD c i hi).1,
    crcByte_of_top _ (c <<< 8) _ fun i hi => (byteOf_getMsbD c i hi).2, ← BitVec.shiftLeft_add]
  exact BitVec.shiftLeft_eq_zero (by decide)

/-! ### The receiver (R173, R174) -/

section
variable {s : State}

theorem State.setReceiver_of_receiver {r : Receiver} (h : s.sli.receiver = r) : s.setReceiver r = s := by
  rw [← h]
  rfl

/-- The admission of a request does not look at the receiver. -/
theorem State.takeIn_setReceiver (s : State) (x : Receiver) (r : LinkRequest) :
    (s.setReceiver x).takeIn r = (s.takeIn r).setReceiver x := by
  have begun (u : State) : (u.setReceiver x).beginNext = u.beginNext.setReceiver x := by
    unfold State.beginNext
    simp only [State.setReceiver_rqd]
    split <;> rfl
  have joined : (s.setReceiver x).joinLane r = (s.joinLane r).setReceiver x := by
    unfold State.joinLane
    split <;> rfl
  have places : (s.setReceiver x).placesHeld = s.placesHeld := rfl
  have room : (s.setReceiver x).laneHasRoom r = s.laneHasRoom r := rfl
  unfold State.takeIn
  rw [places, room, joined, begun]
  repeat' split
  all_goals rfl

/-- HUNT discards every byte but the delimiter. -/
theorem State.linkByte_of_hunt (h : s.sli.receiver = .hunt) {b : Byte} (hb : b ≠ 0xC5) : s.linkByte b = s := by
  rw [State.linkByte, h]
  exact if_neg hb

/-- A delimiter ends the frame being collected and opens the next. -/
theorem State.linkByte_delimiter {buffer : List Byte} {escaped overlong : Bool}
    (h : s.sli.receiver = .collect buffer escaped overlong) :
    s.linkByte 0xC5 = (s.judgeFrame buffer escaped overlong).setReceiver (.collect [] false false) := by
  rw [State.linkByte, h]
  rfl

/-- A delimiter in HUNT, or one that follows another, opens a frame. -/
theorem State.linkByte_opening (h : s.sli.receiver = .hunt ∨ s.sli.receiver = .collect [] false false) :
    s.linkByte 0xC5 = s.setReceiver (.collect [] false false) := by
  obtain h | h := h
  · rw [State.linkByte, h]
    rfl
  · exact State.linkByte_delimiter h

/-- An escaped content byte joins the buffer as it was before it was escaped (R173). -/
theorem State.linkByte_escapeByte {buffer : List Byte} {overlong : Bool} (h : s.sli.receiver = .collect buffer false overlong)
    (b : Byte) : (escapeByte b).foldl State.linkByte s = s.setReceiver (joinBuffer buffer overlong b) := by
  have escaped (x : Byte) (hx : x ^^^ 0x20 ≠ 0xC5) :
      [0xD9, x ^^^ 0x20].foldl State.linkByte s = s.setReceiver (joinBuffer buffer overlong x) := by
    have marked : s.linkByte 0xD9 = s.setReceiver (.collect buffer true overlong) := by
      rw [State.linkByte, h]
      rfl
    have restored : x ^^^ 0x20 ^^^ 0x20 = x := by rw [BitVec.xor_assoc, BitVec.xor_self, BitVec.xor_zero]
    rw [List.foldl_cons, marked, List.foldl_cons, List.foldl_nil, State.linkByte, State.setReceiver_sli]
    dsimp only
    rw [if_neg hx, if_pos rfl, restored]
    rfl
  unfold escapeByte
  split
  · next hb =>
    refine escaped b ?_
    obtain rfl | rfl := hb <;> decide
  · next hb =>
    obtain ⟨hdelimiter, hescape⟩ := not_or.mp hb
    rw [List.foldl_cons, List.foldl_nil, State.linkByte, h]
    dsimp only
    rw [if_neg hdelimiter, if_neg Bool.false_ne_true, if_neg hescape]

/-- The content of an overlong frame is discarded (R174). -/
theorem State.receive_overlong {buffer : List Byte} (content : List Byte) (h : s.sli.receiver = .collect buffer false true) :
    (content.flatMap escapeByte).foldl State.linkByte s = s := by
  induction content with
  | nil => rfl
  | cons b content ih =>
    have kept : s.setReceiver (joinBuffer buffer true b) = s := State.setReceiver_of_receiver h
    rw [List.flatMap_cons, List.foldl_append, State.linkByte_escapeByte h, kept, ih]

/-- The first 245 content bytes are collected, and one more marks the frame overlong (R173, R174). -/
theorem State.receive_content (content : List Byte) {s : State} {buffer : List Byte}
    (h : s.sli.receiver = .collect buffer false false) (hroom : buffer.length ≤ 245) :
    (content.flatMap escapeByte).foldl State.linkByte s =
      s.setReceiver (.collect (buffer ++ content.take (245 - buffer.length)) false
        (decide (245 < buffer.length + content.length))) := by
  induction content generalizing s buffer with
  | nil =>
    have short : ¬245 < buffer.length + ([] : List Byte).length := Nat.not_lt.mpr hroom
    rw [decide_eq_false short, List.take_nil, List.append_nil, State.setReceiver_of_receiver h]
    rfl
  | cons b content ih =>
    rw [List.flatMap_cons, List.foldl_append, State.linkByte_escapeByte h]
    by_cases hfull : buffer.length = 245
    · have marked : joinBuffer buffer false b = .collect buffer false true := if_pos (.inr hfull.ge)
      have long : 245 < buffer.length + (b :: content).length := by
        rw [List.length_cons]
        omega
      rw [marked, State.receive_overlong content rfl, decide_eq_true long, hfull, Nat.sub_self,
        List.take_zero, List.append_nil]
    · have joined : joinBuffer buffer false b = .collect (buffer ++ [b]) false false := by
        refine if_neg fun hlong => ?_
        obtain hlong | hlong := hlong
        · cases hlong
        · exact hfull (Nat.le_antisymm hroom hlong)
      have hlength : (buffer ++ [b]).length = buffer.length + 1 := List.length_append
      have taken : 245 - buffer.length = 245 - (buffer.length + 1) + 1 := by omega
      rw [joined, ih rfl (by omega), hlength, taken, List.take_succ_cons, List.length_cons, List.append_assoc,
        List.singleton_append, Nat.add_assoc, Nat.add_comm 1 content.length]
      rfl

/-- A frame between two delimiters is judged by its first 245 content bytes and by whether there were more (R173, R174). -/
theorem State.receive_wireFrame (content : List Byte) (h : s.sli.receiver = .hunt ∨ s.sli.receiver = .collect [] false false) :
    exec (.frameReceived (wireFrame content)) s =
      .next (((s.setReceiver (.collect (content.take 245) false (decide (245 < content.length)))).judgeFrame (content.take 245)
        false (decide (245 < content.length))).setReceiver (.collect [] false false)) := by
  have collected := State.receive_content (s := s.setReceiver (.collect [] false false)) content rfl (Nat.zero_le _)
  rw [List.nil_append, List.length_nil, Nat.sub_zero, Nat.zero_add] at collected
  refine congrArg Host.Outcome.next ?_
  rw [wireFrame, List.foldl_cons, State.linkByte_opening h, List.foldl_append, collected, List.foldl_cons, List.foldl_nil,
    State.linkByte_delimiter rfl]
  rfl

/-! ### What a delimiter ends (R174 to R176) -/

theorem State.judgeFrame_overlong (s : State) (buffer : List Byte) (escaped : Bool) :
    s.judgeFrame buffer escaped true = s.count Stats.addOverlong := rfl

/-- A frame that is neither overlong nor aborted is judged by its length, its check and its address. -/
theorem State.judgeFrame_complete (s : State) (buffer : List Byte) :
    s.judgeFrame buffer false false =
      if buffer.length = 0 then s
      else if buffer.length < 5 then s.count Stats.addShort
      else if crc16 buffer ≠ 0 then s.count Stats.addCrc
      else s.acceptFrame buffer := rfl

theorem State.judgeFrame_checked {buffer : List Byte} (hlength : 5 ≤ buffer.length) (hcrc : crc16 buffer = 0) (s : State) :
    s.judgeFrame buffer false false = s.acceptFrame buffer := by
  rw [State.judgeFrame_complete, if_neg (by omega), if_neg (by omega), if_neg (not_not_intro hcrc)]

/-- Settles O12: the delimiter judges the frame, clause by clause of R174 to R176. -/
theorem delimiterJudgesFrame : Obligations.DelimiterJudgesFrame := by
  intro s buffer escaped overlong h
  refine ⟨s.judgeFrame buffer escaped overlong, congrArg Host.Outcome.next (State.linkByte_delimiter h), ?_⟩
  refine ⟨?overlong, ?aborted, ?empty, ?short, ?damaged, ?elsewhere⟩
  case overlong =>
    rintro rfl
    exact s.judgeFrame_overlong buffer escaped
  case aborted =>
    rintro rfl rfl
    rfl
  case empty =>
    rintro rfl rfl rfl
    rfl
  case short =>
    rintro rfl rfl hsome hfew
    rw [State.judgeFrame_complete, if_neg (by omega), if_pos (by omega)]
  case damaged =>
    rintro rfl rfl hlength hcrc
    rw [State.judgeFrame_complete, if_neg (by omega), if_neg (by omega), if_pos hcrc]
  case elsewhere =>
    rintro rfl rfl hlength hcrc hbroadcast hother
    rw [State.judgeFrame_checked hlength hcrc, State.acceptFrame, if_neg hbroadcast, if_neg hother]

/-! ### A frame with its CRC (R175, R176) -/

/-- The request of a frame is that of the content before the CRC. -/
theorem requestOf_withCrc (broadcast : Bool) (address kind tag : Byte) (payload : List Byte) :
    requestOf broadcast (withCrc (address :: kind :: tag :: payload)) =
      { kind := kind, request := { broadcast := broadcast, tag := tag, payload := payload } } := by
  have length : (withCrc (address :: kind :: tag :: payload)).length - 5 = payload.length := by
    simp [withCrc, be16_length]
  have payload_taken : ((withCrc (address :: kind :: tag :: payload)).drop 3).take payload.length = payload :=
    List.take_left (l₁ := payload)
  rw [requestOf, length, payload_taken]
  rfl

/-- A good frame to the unit or to all is counted accepted and handed over (R176, R178). -/
theorem State.acceptFrame_withCrc (s : State) {address : Byte} (kind tag : Byte) (payload : List Byte)
    (haddress : address = 0 ∨ address = s.sli.unitAddress) :
    s.acceptFrame (withCrc (address :: kind :: tag :: payload)) =
      (s.count Stats.addAccepted).takeIn
        { kind := kind, request := { broadcast := address == 0, tag := tag, payload := payload } } := by
  have addressed : (withCrc (address :: kind :: tag :: payload)).getD 0 0 = address := rfl
  simp only [State.acceptFrame, addressed, requestOf_withCrc]
  by_cases hzero : address = 0
  · rw [if_pos hzero, beq_iff_eq.mpr hzero]
  · rw [if_neg hzero, if_pos (haddress.resolve_left hzero), beq_eq_false_iff_ne.mpr hzero]

/-- Settles O11: the receiver collects the frame as it was sent, and its CRC passes the check. -/
theorem frameTravels : Obligations.FrameTravels := by
  intro s address kind tag payload hreceiver hpayload haddress
  have accepted (r : Receiver) := State.acceptFrame_withCrc (s.setReceiver r) kind tag payload haddress
  generalize hcontent : withCrc (address :: kind :: tag :: payload) = content at accepted
  have hlength : content.length = payload.length + 5 := by
    rw [← hcontent]
    simp [withCrc, be16_length]
  have hcrc : crc16 content = 0 := hcontent ▸ crc16_withCrc _
  have fits : ¬245 < content.length := by omega
  rw [State.receive_wireFrame content hreceiver, List.take_of_length_le (by omega), decide_eq_false fits,
    State.judgeFrame_checked (by omega) hcrc, accepted]
  have handed (x : Receiver) (r : LinkRequest) : ((s.setReceiver x).count Stats.addAccepted).takeIn r =
      ((s.count Stats.addAccepted).takeIn r).setReceiver x := State.takeIn_setReceiver (s.count _) x r
  rw [handed]
  rfl

/-! ### Broken frames (R173, R174) -/

theorem State.receive_hunting (h : s.sli.receiver = .hunt) {bytes : List Byte} (hbytes : ∀ b ∈ bytes, b ≠ 0xC5) :
    bytes.foldl State.linkByte s = s := by
  induction bytes with
  | nil => rfl
  | cons b bytes ih =>
    obtain ⟨hb, hrest⟩ := List.forall_mem_cons.mp hbytes
    rw [List.foldl_cons, State.linkByte_of_hunt h hb, ih hrest]

/-- Settles O13: bytes in HUNT, an overlong frame, and a bad stop bit in HUNT and in COLLECT. -/
theorem brokenFramesAreCounted : Obligations.BrokenFramesAreCounted := by
  refine fun s => ⟨?hunting, ?overlong, ?idle, ?abandoned⟩
  case hunting => exact fun bytes h hbytes => congrArg Host.Outcome.next (State.receive_hunting h hbytes)
  case overlong =>
    intro content hreceiver hlong
    rw [State.receive_wireFrame content hreceiver, decide_eq_true hlong, State.judgeFrame_overlong]
    rfl
  case idle =>
    intro h
    rw [exec, execFrameAbandoned, h]
  case abandoned =>
    intro buffer escaped overlong h
    rw [exec, execFrameAbandoned, h]
    cases overlong <;> rfl

end

/-! ### A raised notice (R182) -/

/-- Settles O19: a notice meets a queue with room or a full one. -/
theorem noticesQueueOrAreLost : Obligations.NoticesQueueOrAreLost := by
  refine fun s n => ⟨fun hroom => ?_, fun hfull => ⟨min (s.rqd.lost + 1) 65535, ?_, fun hmore => ?_, fun htop => ?_⟩⟩
  · rw [State.raise, Rqd.raise_of_room hroom]
  · rw [State.raise, Rqd.raise_of_full hfull]
  · exact Nat.min_eq_left hmore
  · rw [htop]
    rfl

end Sys2Proof.Machine

/-! ## Requests before the RQD -/

namespace Sys2Proof.Machine

/-! ### The command of a kind byte (Table 33) -/

/-- The command read for a kind byte carries that kind and that request. -/
theorem commandOf_kindByte (kind : Byte) (q : Request) (adc : Readings) : (commandOf kind q adc).kindByte = some kind := by
  have listed {n : Byte} (h : kind.toNat = n.toNat) : some n = some kind := congrArg some (BitVec.eq_of_toNat_eq h.symm)
  unfold commandOf
  split
  case h_51 => rfl
  all_goals exact listed ‹_›

theorem commandOf_request (kind : Byte) (q : Request) (adc : Readings) : (commandOf kind q adc).request = some q := by
  unfold commandOf
  split <;> rfl

/-- The command read for a kind byte is that of an unknown kind exactly when Table 33 does not list the kind. -/
theorem commandOf_of_unknown {kind : Byte} (h : isKnownKind kind = false) (q : Request) (adc : Readings) :
    commandOf kind q adc = .unknownKind kind q := by
  unfold commandOf
  split
  case h_51 => rfl
  all_goals simp [isKnownKind, *] at h

theorem commandOf_kindOk (kind : Byte) (q : Request) (adc : Readings) : (commandOf kind q adc).kindOk = true := by
  cases h : isKnownKind kind with
  | false => rw [commandOf_of_unknown h, Instr.kindOk, h]; rfl
  | true =>
    unfold commandOf
    split
    case h_51 =>
      simp only [imp_false] at *
      simp only [isKnownKind, Bool.or_eq_true, decide_eq_true_eq] at h
      omega
    all_goals rfl

/-! ### The common checks (R180, R187, R193) -/

/-- The command serves the requests of a kind: the length check of Table 33 comes first, and for a kind of Table 40 the SAVING
check next. -/
def checksFirst (c : Instr) (kind : Byte) (q : Request) : Prop :=
  ∃ (own : State → List (Bool × Status)) (effect : State → State × Answer),
    (∀ s, exec c s = .next (s.serve kind q (changeBody
      (fun u => (payloadLengthOk kind q.payload, .badLength) :: own u) effect))) ∧
    (kind ∈ savingKinds → ∀ u, ∃ rest, own u = (u.notSaving, .saving) :: rest)

section
variable {c : Instr} {kind : Byte} {q : Request} {ok : Bool} {own : State → List (Bool × Status)}
  {effect : State → State × Answer}

/-- A request that is answered also while SAVING. -/
theorem checksFirst_of_length (hkind : kind ∉ savingKinds) (hok : payloadLengthOk kind q.payload = ok)
    (hexec : ∀ s, exec c s = .next (s.serve kind q (changeBody (fun u => (ok, .badLength) :: own u) effect))) :
    checksFirst c kind q :=
  ⟨own, effect, hok ▸ hexec, fun h => absurd h hkind⟩

/-- A change of the tables of the show image, refused while SAVING. -/
theorem checksFirst_of_table (hok : payloadLengthOk kind q.payload = ok)
    (hexec : ∀ s, exec c s = .next (s.serve kind q (changeBody (fun u => tableChecks ok u (own u)) effect))) :
    checksFirst c kind q :=
  ⟨fun u => (u.notSaving, .saving) :: own u, effect, hok ▸ hexec, fun _ _ => ⟨_, rfl⟩⟩

end

/-- A length that a count gives, by the base, the place of the count and the size of an item (R187). -/
theorem hasCountedLength_eq (q : Request) (base place size : Nat) :
    decide (place < q.payload.length ∧ q.payload.length = base + size * u8 q.payload place ∧ q.payload.length ≤ 240) =
      hasCountedLength q base place size := by
  rw [Bool.eq_iff_iff]
  simp only [hasCountedLength, decide_eq_true_eq, Bool.and_eq_true, beq_iff_eq]
  tauto

/-- Every request but RESTART and one of an unknown kind makes the common checks first. -/
theorem exec_checksFirst {c : Instr} {kind : Byte} {q : Request} (hkind : c.kindByte = some kind) (hq : c.request = some q)
    (hok : c.kindOk = true) (hknown : isKnownKind kind = true) (hrestart : kind ≠ 0x05) : checksFirst c kind q := by
  cases c with
  | unknownKind k r =>
    cases hkind
    rw [Instr.kindOk, hknown] at hok
    cases hok
  | restart r =>
    cases hkind
    exact absurd rfl hrestart
  | unitQuery r | noticePoll r | stats r | profileRead r | fixtureRead r | groupRead r | zoneRead r | aim r | tint r | level r
  | fixtureQuery r | park r | stop r | douse r | release r | go r | cueRead r | showTime r | clockQuery r | timelineRead r
  | trackBind r | trackRelease r | trackQuery r | stickZero r | stickSample r adc | stickQuery r | lineQuery r | lineImage r =>
    cases hkind
    cases hq
    exact checksFirst_of_length (by decide) rfl fun _ => rfl
  | save r | clearShow r | profileRemove r | fixtureDefine r | fixtureRemove r | groupSet r | zoneSet r | cueOpen r
  | cueDelete r | clockSet r | timelineAdd r | timelineRemove r | stickSet r | stickCentre r adc | lineSet r | linePin r =>
    cases hkind
    cases hq
    exact checksFirst_of_table rfl fun _ => rfl
  | trackPoints r =>
    cases hkind
    cases hq
    exact checksFirst_of_length (by decide) (hasCountedLength_eq q 2 1 15) fun _ => rfl
  | profileLoad r =>
    cases hkind
    cases hq
    exact checksFirst_of_table (hasCountedLength_eq q 76 1 1) fun _ => rfl
  | fixtureSlots r =>
    cases hkind
    cases hq
    exact checksFirst_of_table (hasCountedLength_eq q 3 2 1) fun _ => rfl
  | cuePart r =>
    cases hkind
    cases hq
    exact checksFirst_of_table (hasCountedLength_eq q 2 1 34) fun _ => rfl
  | lineStatic r =>
    cases hkind
    cases hq
    exact checksFirst_of_table (hasCountedLength_eq q 4 3 1) fun _ => rfl
  | _ => cases hkind

/-- RESTART makes the same two checks. -/
theorem State.serveRestart_refused {s : State} {q : Request} {st : Status} (h : s.serving 0x05 q)
    (hc : firstFailing (tableChecks (hasLength q 0) s []) = some st) : s.serveRestart q = s.answered 0x05 q (.refuse st) := by
  unfold State.serveRestart
  dsimp only
  rw [State.present_of_inProgress h, if_pos (show s.rqd.inProgress = _ from h), hc]
  rfl

theorem State.present_of_other {s : State} {r0 r : LinkRequest} (h : s.rqd.inProgress = some r0) (hne : r0 ≠ r) :
    s.present r = s.takeIn r :=
  if_neg fun hr => hne (Option.some.inj (h.symm.trans hr))

/-- While another request is in progress, a RESTART is only admitted. -/
theorem State.serveRestart_of_other {s : State} {r0 : LinkRequest} {q : Request} (h : s.rqd.inProgress = some r0)
    (hne : r0 ≠ { kind := 0x05, request := q }) : s.serveRestart q = s.takeIn { kind := 0x05, request := q } := by
  unfold State.serveRestart
  dsimp only
  rw [State.present_of_other h hne, State.takeIn_inProgress _ h, if_neg fun hr => hne (Option.some.inj hr)]

theorem commandOf_checksFirst {kind : Byte} (q : Request) (adc : Readings) (hknown : isKnownKind kind = true)
    (hrestart : kind ≠ 0x05) : checksFirst (commandOf kind q adc) kind q :=
  exec_checksFirst (commandOf_kindByte ..) (commandOf_request ..) (commandOf_kindOk ..) hknown hrestart

/-- Settles O16: an unknown kind has no check before its refusal, and every other request makes the common checks first. -/
theorem commonChecksRefuse : Obligations.CommonChecksRefuse := by
  intro kind q adc s hserving
  refine ⟨fun hunknown => ?unknown, fun hknown hlength => ?length, fun hkind hlength hsaving => ?saving⟩
  case unknown =>
    simp only [exec, execUnknownKind, hunknown, State.serve_of_inProgress hserving]
    rfl
  case length =>
    by_cases hrestart : kind = 0x05
    · subst hrestart
      have wrong : hasLength q 0 = false := hlength
      refine congrArg Host.Outcome.next (State.serveRestart_refused hserving ?_)
      rw [tableChecks, wrong, firstFailing_false]
    · obtain ⟨own, effect, hexec, -⟩ := commandOf_checksFirst q adc hknown hrestart
      refine (hexec s).trans (congrArg Host.Outcome.next (State.serve_refused hserving ?_))
      rw [hlength, firstFailing_false]
  case saving =>
    have busy : s.notSaving = false := by rw [State.notSaving, Option.isNone_eq_false_iff, hsaving]
    by_cases hrestart : kind = 0x05
    · subst hrestart
      have right : hasLength q 0 = true := hlength
      refine congrArg Host.Outcome.next (State.serveRestart_refused hserving ?_)
      rw [tableChecks, right, firstFailing_true, busy, firstFailing_false]
    · have hknown : ∀ k ∈ savingKinds, isKnownKind k = true := by decide
      obtain ⟨own, effect, hexec, hown⟩ := commandOf_checksFirst q adc (hknown kind hkind) hrestart
      obtain ⟨rest, hrest⟩ := hown hkind s
      refine (hexec s).trans (congrArg Host.Outcome.next (State.serve_refused hserving ?_))
      rw [hlength, firstFailing_true, hrest, busy, firstFailing_false]

/-! ### A request that must wait (R178) -/

/-- While another request is in progress, a request of any kind is only admitted. -/
theorem commandOf_of_other {s : State} {r0 : LinkRequest} {kind : Byte} {q : Request} (adc : Readings)
    (h : s.rqd.inProgress = some r0) (hne : r0 ≠ { kind := kind, request := q }) :
    exec (commandOf kind q adc) s = .next (s.takeIn { kind := kind, request := q }) := by
  cases hknown : isKnownKind kind with
  | false =>
    rw [commandOf_of_unknown hknown]
    simp only [exec, execUnknownKind, hknown, State.serve_of_other h hne]
    rfl
  | true =>
    by_cases hrestart : kind = 0x05
    · subst hrestart
      exact congrArg Host.Outcome.next (State.serveRestart_of_other h hne)
    · obtain ⟨own, effect, hexec, -⟩ := commandOf_checksFirst q adc hknown hrestart
      rw [hexec, State.serve_of_other h hne]

theorem isUrgent_iff (kind : Byte) : isUrgent kind = true ↔ 0x28 ≤ kind.toNat ∧ kind.toNat ≤ 0x2C := by
  rw [isUrgent, Bool.and_eq_true, decide_eq_true_eq, decide_eq_true_eq]

theorem State.laneHasRoom_iff (s : State) (r : LinkRequest) : s.laneHasRoom r = true ↔
    if 0x28 ≤ r.kind.toNat ∧ r.kind.toNat ≤ 0x2C then s.rqd.urgent.length < 4 else s.rqd.normal.length < 8 := by
  simp only [State.laneHasRoom, isUrgent_iff]
  split <;> exact decide_eq_true_iff

theorem State.joinLane_eq (s : State) (r : LinkRequest) : s.joinLane r = { s with rqd :=
    if 0x28 ≤ r.kind.toNat ∧ r.kind.toNat ≤ 0x2C then { s.rqd with urgent := s.rqd.urgent ++ [r] }
    else { s.rqd with normal := s.rqd.normal ++ [r] } } := by
  simp only [State.joinLane, isUrgent_iff]
  split <;> rfl

/-- Settles O14: the request is only admitted, and the admission goes by the reply places and the room of its lane. -/
theorem requestWaitsInItsLane : Obligations.RequestWaitsInItsLane := by
  intro kind q adc s r0 hprogress hne r urgent room c
  have admitted : exec c s = .next (s.takeIn r) := commandOf_of_other adc hprogress hne
  have hroom : s.laneHasRoom r = true ↔ room := s.laneHasRoom_iff r
  rw [admitted, State.takeIn_of_inProgress r hprogress]
  refine ⟨fun hunicast hfull => ?noPlace, fun hunicast hplace hlane => ?busy, fun hbroadcast hlane => ?dropped,
    fun hplace hlane => ?joined⟩
  case noPlace => rw [show r.request.broadcast = false from hunicast, if_neg Bool.false_ne_true, if_pos hfull]
  case busy =>
    rw [show r.request.broadcast = false from hunicast, if_neg Bool.false_ne_true, if_neg (Nat.not_le.mpr hplace),
      if_neg (hroom.not.mpr hlane)]
    rfl
  case dropped => rw [if_pos (show r.request.broadcast = true from hbroadcast), if_neg (hroom.not.mpr hlane)]
  case joined =>
    refine Eq.trans ?_ (congrArg Host.Outcome.next (s.joinLane_eq r))
    simp only [if_pos (hroom.mpr hlane)]
    obtain hbroadcast | hplace := hplace
    · rw [if_pos (show r.request.broadcast = true from hbroadcast)]
    · rw [if_neg (Nat.not_le.mpr hplace), ite_self]

/-! ### The end of a request and of a reply (R177, R179) -/

section
variable (s : State) (r : LinkRequest) (a : Answer)

theorem State.complete_sli :
    (s.complete r a).sli = if r.request.broadcast then s.sli else (s.pushReply (replyTo r a)).sli := by
  unfold State.complete
  split <;> exact State.beginNext_sli _

/-- The RQD begins its next request whether or not a reply was built. -/
theorem State.complete_rqd : (s.complete r a).rqd = s.dropRequest.beginNext.rqd := by
  unfold State.complete
  split
  · rfl
  · unfold State.beginNext
    simp only [State.pushReply_rqd]
    split <;> rfl

end

/-- Settles O15: the reply and the next request of a completion, and the end of a reply. -/
theorem repliesAndServiceGoInOrder : Obligations.RepliesAndServiceGoInOrder := by
  refine fun s => ⟨fun r a => ⟨?reply, ?begun, State.complete_eq s r a, ?link⟩, fun r rest hreplies => ?sent,
    fun hnone => ?idle⟩
  case reply =>
    rw [State.complete_sli]
    split <;> rfl
  case begun =>
    rw [State.complete_rqd]
    cases hu : s.rqd.urgent with
    | cons u us => simp [State.beginNext, hu]
    | nil => cases hn : s.rqd.normal <;> simp [State.beginNext, hu, hn]
  case link =>
    rw [State.complete_sli]
    split <;> rfl
  case sent =>
    have hend : s.sli.replyEnd = s.sli.sendingSince + 5 * (r.wire s.sli.unitAddress).length := by rw [Sli.replyEnd, hreplies]
    simp only [exec, execReplySent, hreplies, State.finishReply, State.advanceTo, hend]
    rfl
  case idle =>
    simp only [exec, execReplySent, hnone]
    rfl

/-! ### NOTICE-POLL and STATS (R183 to R185) -/

theorem Rqd.pollData_eq (r : Rqd) : r.pollData =
    [byteOf (min 8 r.notices.length), byteOf (r.notices.length - min 8 r.notices.length)] ++ be16 r.lost ++
      (r.notices.take 8).flatMap NoticeRecord.bytes := by
  simp [Rqd.pollData]

/-- After a clear every counter of Table 31 reads 0 (R184). -/
theorem State.clearCounters_counters (s : State) : ∀ c ∈ s.clearCounters.counters, c = 0 := by
  have framesSent : ∀ c ∈ s.clearCounters.lnu.toList.map Line.framesSent, c = 0 := by
    simp [Vector.toList_map, Line.clearCounters]
  have faults : ∀ c ∈ s.clearCounters.lnu.toList.map Line.faults, c = 0 := by
    simp [Vector.toList_map, Line.clearCounters]
  have units : ∀ c ∈ List.replicate 12 (0 : Counter), c = 0 := fun c hc => List.eq_of_mem_replicate hc
  have lost : ∀ c ∈ [(0 : Counter)], c = 0 := fun c hc => List.mem_singleton.mp hc
  intro c hc
  change c ∈ List.replicate 12 0 ++ _ ++ _ ++ [0] at hc
  simp only [List.mem_append] at hc
  obtain ((hc | hc) | hc) | hc := hc
  · exact units c hc
  · exact framesSent c hc
  · exact faults c hc
  · exact lost c hc

/-- Settles O20: each request passes its checks and answers from the queue or the counters. -/
theorem pollAndStats : Obligations.PollAndStats := by
  intro s q
  have polled (hserving : s.serving 0x02 q) (hp : q.payload = []) :
      exec (.noticePoll q) s = .next ((s.pollNotices q.broadcast).1.answered 0x02 q (s.pollNotices q.broadcast).2) := by
    have hlength : hasLength q 0 = true := by rw [hasLength, hp]; rfl
    refine congrArg Host.Outcome.next (State.serve_accepted hserving ?_)
    rw [hlength]
    rfl
  have counted (clear : Bool) (hserving : s.serving 0x03 q) (hp : q.payload = [boolByte clear]) :
      exec (.stats q) s = .next ((s.takeStats clear).1.answered 0x03 q (s.takeStats clear).2) := by
    have hlength : hasLength q 1 = true := by rw [hasLength, hp]; rfl
    have hflag : u8 q.payload 0 < 2 ∧ (u8 q.payload 0 == 1) = clear := by rw [hp]; cases clear <;> decide
    simp only [exec, execStats, hflag.2]
    refine congrArg Host.Outcome.next (State.serve_accepted hserving ?_)
    rw [hlength, decide_eq_true hflag.1]
    rfl
  refine ⟨fun hserving hp hunicast => ?poll, fun hserving hp hbroadcast => ?broadcast, fun hserving hp => ?stats,
    fun hserving hp => ?clear⟩
  case poll =>
    refine ⟨_, ?_, rfl⟩
    rw [polled hserving hp, hunicast, ← Rqd.pollData_eq]
    rfl
  case broadcast =>
    rw [polled hserving hp, hbroadcast]
    rfl
  case stats => exact counted false hserving hp
  case clear =>
    refine ⟨s.clearCounters, counted true hserving hp, rfl, s.clearCounters_counters, fun l => ?_⟩
    simp [Line.clearCounters]

end Sys2Proof.Machine

/-! ## Lines after a re-arming event and after the rebuild of their images -/

namespace Sys2Proof.Machine

/-! ### Re-arming (R158, R161) -/

/-- The line after a re-arming event: in its armed mode, or in FAULT where it meets its fault input. -/
def Line.rearmed (x : Line) : Line :=
  if x.meetsFault then x.faulted else { x with mode := x.armed.mode }

/-- The LINE-FAULT notices of some lines, raised at local time `t`. -/
def faultNotices (t : LocalTime) (ls : List (Fin 8)) : List NoticeRecord := ls.map fun l => { time := t, notice := .lineFault l }

section
variable (s : State)

theorem State.rearmLine_eq (l : Fin 8) : s.rearmLine l =
    if (s.lnu[l]).meetsFault then (s.modifyLine l Line.rearmed).raise (.lineFault l) else s.modifyLine l Line.rearmed := by
  have changed (f : Line → Line) (h : f s.lnu[l] = (s.lnu[l]).rearmed) : s.modifyLine l f = s.modifyLine l Line.rearmed := by
    rw [State.modifyLine, h, State.modifyLine]
  unfold State.rearmLine
  split
  · next h =>
    rw [State.settleLine_of_fault h, changed _ (by rw [Line.rearmed, if_pos h]; rfl)]
  · next h =>
    rw [State.settleLine_of_clear (Bool.eq_false_iff.mpr h), changed _ (by rw [Line.rearmed, if_neg h])]

theorem State.rearmLine_lnu (l m : Fin 8) : (s.rearmLine l).lnu[m] = if m = l then (s.lnu[m]).rearmed else s.lnu[m] := by
  have hlnu : (s.rearmLine l).lnu = s.lnu.set l (s.lnu[l]).rearmed := by
    rw [State.rearmLine_eq]
    split <;> rfl
  rw [hlnu]
  split
  · next h => simp [h]
  · next h =>
    have hval : l.val ≠ m.val := fun e => h (Fin.ext e.symm)
    simp [hval]

theorem State.rearmLine_rqd (l : Fin 8) : (s.rearmLine l).rqd =
    if (s.lnu[l]).meetsFault then s.rqd.raise { time := s.localClock, notice := .lineFault l } else s.rqd := by
  rw [State.rearmLine_eq]
  split <;> rfl

theorem State.rearmLine_localClock (l : Fin 8) : (s.rearmLine l).localClock = s.localClock := by
  rw [State.localClock, State.rearmLine_scu, State.localClock]

/-- Each listed line is re-armed once, and no other. -/
theorem State.foldl_rearmLine_lnu {ls : List (Fin 8)} (hls : ls.Nodup) (m : Fin 8) :
    (ls.foldl State.rearmLine s).lnu[m] = if m ∈ ls then (s.lnu[m]).rearmed else s.lnu[m] := by
  induction ls generalizing s with
  | nil => rfl
  | cons l ls ih =>
    obtain ⟨hl, hls⟩ := List.nodup_cons.mp hls
    rw [List.foldl_cons, ih (s.rearmLine l) hls, State.rearmLine_lnu]
    by_cases hm : m = l
    · simp [hm, hl]
    · simp [hm]

/-- The listed lines that meet their fault input raise their notices, in the order of the list. -/
theorem State.foldl_rearmLine_rqd {ls : List (Fin 8)} (hls : ls.Nodup) :
    (ls.foldl State.rearmLine s).rqd =
      (faultNotices s.localClock (ls.filter fun l => (s.lnu[l]).meetsFault)).foldl Rqd.raise s.rqd := by
  induction ls generalizing s with
  | nil => rfl
  | cons l ls ih =>
    obtain ⟨hl, hls⟩ := List.nodup_cons.mp hls
    have later : (ls.filter fun m => ((s.rearmLine l).lnu[m]).meetsFault) = ls.filter fun m => (s.lnu[m]).meetsFault := by
      refine List.filter_congr fun m hm => ?_
      have hne : m ≠ l := fun e => hl (e ▸ hm)
      rw [State.rearmLine_lnu, if_neg hne]
    rw [List.foldl_cons, ih (s.rearmLine l) hls, later, State.rearmLine_localClock, State.rearmLine_rqd, List.filter_cons]
    split <;> rfl

theorem State.rearmLines_lnu (l : Fin 8) : s.rearmLines.lnu[l] = (s.lnu[l]).rearmed :=
  (s.foldl_rearmLine_lnu (List.nodup_finRange 8) l).trans (if_pos (List.mem_finRange l))

theorem State.rearmLines_rqd : s.rearmLines.rqd =
    (faultNotices s.localClock ((List.finRange 8).filter fun l => (s.lnu[l]).meetsFault)).foldl Rqd.raise s.rqd :=
  s.foldl_rearmLine_rqd (List.nodup_finRange 8)

/-- Lines that meet no fault input raise no notice. -/
theorem State.rearmLines_rqd_of_clear (h : ∀ l : Fin 8, (s.lnu[l]).meetsFault = false) : s.rearmLines.rqd = s.rqd := by
  have none : ((List.finRange 8).filter fun l => (s.lnu[l]).meetsFault) = [] :=
    List.filter_eq_nil_iff.mpr fun l _ => Bool.eq_false_iff.mp (h l)
  rw [State.rearmLines_rqd, none]
  rfl

end

/-- Notices that all find room join the tail of the queue in turn (R182). -/
theorem Rqd.foldl_raise_of_room {q : Rqd} {ns : List NoticeRecord} (h : q.notices.length + ns.length ≤ 32) :
    ns.foldl Rqd.raise q = { q with notices := q.notices ++ ns } := by
  induction ns generalizing q with
  | nil => simp
  | cons n ns ih =>
    rw [List.length_cons] at h
    rw [List.foldl_cons, Rqd.raise_of_room (by omega), ih (by simp; omega)]
    simp

theorem Line.rearmed_of_clear {x : Line} (h : x.meetsFault = false) : x.rearmed = { x with mode := x.armed.mode } := by
  simp [Line.rearmed, h]

theorem Line.rearmed_of_off {x : Line} (h : x.armed = .off) : x.rearmed = { x with mode := .off } := by
  rw [Line.rearmed_of_clear ((Line.meetsFault_eq_false_iff x).mpr (.inr h)), h]
  cases x
  simp_all [ArmedMode.mode]

/-- Whatever a line meets, its settings are kept. -/
theorem Line.rearmed_eq (x : Line) : x.rearmed = { x with
    mode := if x.faultInput = true ∧ x.armed ≠ .off then .fault else x.armed.mode
    frame := if x.faultInput = true ∧ x.armed ≠ .off then none else x.frame
    faults := if x.faultInput = true ∧ x.armed ≠ .off then x.faults + 1 else x.faults } := by
  simp only [← Line.meetsFault_eq_true_iff, Line.rearmed]
  split <;> rfl

/-! ### The rebuild of the images (R165) -/

/-- A line without its images. -/
def Line.withoutImages (x : Line) : Line := { x with next := Vector.replicate 512 0, latest := Vector.replicate 512 0 }

theorem Line.swap_withoutImages (x : Line) : x.swap.withoutImages = x.withoutImages := rfl

theorem Line.withNext_withoutImages (x : Line) (next : Vector Byte 512) :
    ({ x with next := next } : Line).withoutImages = x.withoutImages := rfl

theorem Line.eq_of_withoutImages {x y : Line} (h : x.withoutImages = y.withoutImages) :
    x = { y with next := x.next, latest := x.latest } := by
  cases x
  cases y
  simp_all [Line.withoutImages]

section
variable (s : State)

theorem State.writeStatics_withoutImages (f : Fixture) (l : Fin 8) :
    ((s.writeStatics f).lnu[l]).withoutImages = (s.lnu[l]).withoutImages := by
  rw [State.writeStatics, State.modifyLine_lnu, Fin.getElem_fin, Vector.getElem_set]
  split
  · next h => rw [Fin.ext h]; rfl
  · rfl

/-- The rebuild changes the two images of a line alone. -/
theorem State.rebuildImages_lnu (l : Fin 8) : s.rebuildImages.lnu[l] = { s.lnu[l] with
    next := (s.rebuildImages.lnu[l]).next, latest := (s.rebuildImages.lnu[l]).latest } := by
  have written := foldl_keeps (fun t : State => (t.lnu[l]).withoutImages) (fun t i => (s.fixture? i).elim t t.writeStatics)
    (fun t i => by
      cases s.fixture? i with
      | none => rfl
      | some f => exact t.writeStatics_withoutImages f l)
    (List.finRange 128) { s with lnu := s.lnu.map fun l => { l with next := l.statics } }
  refine Line.eq_of_withoutImages ?_
  simp only [State.rebuildImages, State.swapImages, Fin.getElem_fin, Vector.getElem_map, Line.swap_withoutImages,
    Line.withNext_withoutImages] at written ⊢
  exact written

/-- Without a fixture both images of a line are its static values. -/
theorem State.rebuildImages_lnu_of_no_fixture (h : ∀ i, s.fixture? i = none) (l : Fin 8) :
    s.rebuildImages.lnu[l] = { s.lnu[l] with next := (s.lnu[l]).statics, latest := (s.lnu[l]).statics } := by
  have kept := s.rebuildImages_lnu l
  have statics : (s.rebuildImages.lnu[l]).statics = (s.lnu[l]).statics := by rw [kept]
  have swapped : (s.rebuildImages.lnu[l]).latest = (s.rebuildImages.lnu[l]).next :=
    (s.rebuildImages_imagesRebuilt l 0 (by decide)).1
  have bare : (s.rebuildImages.lnu[l]).next = (s.lnu[l]).statics := by
    refine Vector.ext fun k hk => ?_
    obtain ⟨-, uncovered, -⟩ := s.rebuildImages_imagesRebuilt l k hk
    refine (uncovered fun i f hf => ?_).trans (by rw [statics])
    have none : s.rebuildImages.fixture? i = none := by rw [State.fixture?, State.rebuildImages_fxe]; exact h i
    rw [none] at hf
    cases hf
  rw [swapped, bare] at kept
  exact kept

end

end Sys2Proof.Machine

/-! ## SAVE and its completion -/

namespace Sys2Proof.Machine

theorem execSave_accepted {s : State} {q : Request} (hserving : s.serving 0x04 q) (hpayload : q.payload = [])
    (hsaving : s.ims.saving = none) : exec (.save q) s = .next (s.startSave.1.answered 0x04 q (.ok [])) := by
  refine congrArg Host.Outcome.next (State.serve_accepted hserving ?_)
  have hlength : hasLength q 0 = true := hasLength_of_eq hpayload
  rw [tableChecks_passed hlength hsaving]
  rfl

theorem execSaveCompletion_of_saving {s : State} {image : List Byte} (h : s.ims.saving = some image) (matched : Bool) :
    exec (.saveCompletion matched) s = .next (s.endSave image matched) := by
  change execSaveCompletion matched s = _
  rw [execSaveCompletion, h]

/-- An erased image area holds no image: it does not begin with the magic word (R192). -/
theorem validBody_nil : validBody [] = none := by simp [validBody, u32, u16, u8]

/-- Settles O8: the request passes its checks, and a completion goes by the save in progress. -/
theorem saveStartsAndCompletes : Obligations.SaveStartsAndCompletes := by
  intro s
  refine ⟨fun q hserving hpayload hsaving => ⟨_, execSave_accepted hserving hpayload hsaving⟩, validBody_nil,
    fun image hsaving => ⟨execSaveCompletion_of_saving hsaving true, [], validBody_nil,
      execSaveCompletion_of_saving hsaving false⟩, fun hsaving matched => ?_⟩
  change execSaveCompletion matched s = _
  rw [execSaveCompletion, hsaving]

/-! ## The state after reset -/

theorem reset_timelineOk : State.reset.timelineOk := ⟨Nat.zero_le _, List.Pairwise.nil, rfl⟩

theorem reset_lockOk : State.reset.lockOk := ⟨Nat.zero_lt_succ 2, nofun⟩

theorem reset_fixturesOk : State.reset.fixturesOk := by
  intro i f hf
  have none : State.reset.fixture? i = none := by simp [State.fixture?, State.reset]
  rw [none] at hf
  cases hf

theorem reset_linkOk : State.reset.linkOk :=
  State.linkOk_of_idle rfl rfl rfl ⟨by decide, Nat.zero_le _⟩ (Nat.zero_le _)

/-- Settles O18, invariant by invariant. -/
theorem resetMeetsInvariants : Obligations.ResetMeetsInvariants :=
  ⟨reset_linkOk.1, reset_linkOk.2, reset_fixturesOk, reset_buildOk.1, reset_timelineOk, reset_lockOk,
    State.tracksOk.of_reset rfl⟩

end Sys2Proof.Machine

/-! ## Start-up and CLEAR-SHOW -/

namespace Sys2Proof.Machine

/-! ### Lines without a fixture -/

section
variable {s : State}

/-- A line that is not armed is OFF after a re-arming event, and without a fixture shows its static values (R158, R165). -/
theorem State.rearmed_rebuilt_lnu_of_off (hfixtures : ∀ i, s.fixture? i = none) {l : Fin 8} (harmed : (s.lnu[l]).armed = .off) :
    s.rearmLines.rebuildImages.lnu[l] =
      { s.lnu[l] with mode := .off, next := (s.lnu[l]).statics, latest := (s.lnu[l]).statics } := by
  have none (i : Fin 128) : s.rearmLines.fixture? i = none := by rw [State.fixture?, State.rearmLines_fxe]; exact hfixtures i
  rw [State.rebuildImages_lnu_of_no_fixture _ none, State.rearmLines_lnu, Line.rearmed_of_off harmed]

/-- Lines that are not armed raise no notice. -/
theorem State.rearmLines_rqd_of_off (harmed : ∀ l : Fin 8, (s.lnu[l]).armed = .off) : s.rearmLines.rqd = s.rqd :=
  s.rearmLines_rqd_of_clear fun l => (Line.meetsFault_eq_false_iff _).mpr (.inr (harmed l))

end

/-! ### Start-up (R192, R195) -/

section
variable (s : State) (straps : BitVec 4)

/-- The show that a start-up loads: that of a valid image, or the defaults. -/
def State.startShow : ShowImage :=
  match validBody s.ims.flash with
  | some body => showOf body
  | none => ShowImage.defaults

/-- The state of a start-up after the load, before the lines meet their fault inputs. -/
def State.loaded : State :=
  match validBody s.ims.flash with
  | some body => s.loadShow (showOf body) true straps
  | none => (s.loadShow ShowImage.defaults false straps).raise .imageInvalid

variable {s} in
theorem State.startShow_of_none (h : validBody s.ims.flash = none) : s.startShow = ShowImage.defaults := by
  rw [State.startShow, h]

variable {s} in
theorem State.startShow_of_some {body : List Byte} (h : validBody s.ims.flash = some body) : s.startShow = showOf body := by
  rw [State.startShow, h]

variable {s} in
theorem State.loaded_of_none (h : validBody s.ims.flash = none) :
    s.loaded straps = (s.loadShow ShowImage.defaults false straps).raise .imageInvalid := by
  rw [State.loaded, h]

variable {s} in
theorem State.loaded_of_some {body : List Byte} (h : validBody s.ims.flash = some body) :
    s.loaded straps = s.loadShow (showOf body) true straps := by
  rw [State.loaded, h]

theorem State.startUp_eq : s.startUp straps = (s.loaded straps).rearmLines.rebuildImages := by
  cases h : validBody s.ims.flash with
  | none => rw [State.startUp, State.loaded_of_none straps h, h]
  | some body => rw [State.startUp, State.loaded_of_some straps h, h]

theorem State.loaded_eq : s.loaded straps =
    { s.loadShow s.startShow (validBody s.ims.flash).isSome straps with rqd := (s.loaded straps).rqd } := by
  cases h : validBody s.ims.flash with
  | none =>
    rw [State.loaded_of_none straps h, State.startShow_of_none h]
    rfl
  | some body =>
    rw [State.loaded_of_some straps h, State.startShow_of_some h]
    rfl

/-- Without a valid image IMAGE-INVALID is the one notice (R192). -/
theorem State.loaded_rqd (h : validBody s.ims.flash = none) : (s.loaded straps).rqd =
    { normal := [], urgent := [], inProgress := none, lost := 0, stats := Stats.zero,
      notices := [{ time := 0, notice := .imageInvalid }] } := by
  rw [State.loaded_of_none straps h, State.raise_rqd]
  have clock : (s.loadShow ShowImage.defaults false straps).localClock = 0 := by
    simp [State.localClock, State.loadShow, ShowImage.scu]
  rw [clock]
  exact Rqd.raise_of_room (q := Rqd.start) (Nat.zero_lt_succ 31)

theorem State.startUp_sli : (s.startUp straps).sli =
    { unitAddress := straps.setWidth 8 + 1, receiver := .hunt, replies := [], sendingSince := 0 } := by
  rw [State.startUp_eq, State.rebuildImages_sli, State.rearmLines_sli, State.loaded_eq]
  rfl

theorem State.startUp_fxe : (s.startUp straps).fxe = s.startShow.fxe := by
  rw [State.startUp_eq, State.rebuildImages_fxe, State.rearmLines_fxe, State.loaded_eq]
  rfl

theorem State.startUp_scu : (s.startUp straps).scu = s.startShow.scu := by
  rw [State.startUp_eq, State.rebuildImages_scu, State.rearmLines_scu, State.loaded_eq]
  rfl

theorem State.startUp_pbu : (s.startUp straps).pbu = s.startShow.pbu := by
  rw [State.startUp_eq, State.rebuildImages_pbu, State.rearmLines_pbu, State.loaded_eq]
  rfl

theorem State.startUp_sku : (s.startUp straps).sku =
    { sticks := s.startShow.sticks.map SavedStick.loaded, inputs := s.sku.inputs } := by
  rw [State.startUp_eq, State.rebuildImages_sku, State.rearmLines_sku, State.loaded_eq]
  rfl

theorem State.startUp_ims : (s.startUp straps).ims =
    { saving := none, lastLoadValid := (validBody s.ims.flash).isSome, flash := s.ims.flash } := by
  rw [State.startUp_eq, State.rebuildImages_ims, State.rearmLines_ims, State.loaded_eq]
  rfl

theorem State.loaded_lnu (l : Fin 8) :
    (s.loaded straps).lnu[l] = (s.startShow.lines[l]).loaded (s.lnu[l]).faultInput := by
  rw [State.loaded_eq]
  simp [State.loadShow]

theorem State.startUp_lnu (l : Fin 8) : (s.startUp straps).lnu[l] =
    { ((s.startShow.lines[l]).loaded (s.lnu[l]).faultInput).rearmed with
      next := ((s.startUp straps).lnu[l]).next, latest := ((s.startUp straps).lnu[l]).latest } := by
  rw [← State.loaded_lnu s straps, ← State.rearmLines_lnu, State.startUp_eq]
  exact State.rebuildImages_lnu _ l

/-- A loaded fixture has its runtime record reset at local clock 0 (R24, R48). -/
theorem State.startUp_fixture? (i : Fin 128) :
    (s.startUp straps).fixture? i = (s.startShow.fixtures[i]).map fun f => f.loaded s.startShow.profiles := by
  rw [State.fixture?, State.startUp_fxe]
  simp [ShowImage.fxe]

end

/-- Settles O4: the defaults arm no line and define no fixture, so that the lines stand as they were loaded. -/
theorem startUpWithoutImage : Obligations.StartUpWithoutImage := by
  intro s straps hflash
  have hshow := State.startShow_of_none hflash
  have hloaded (l : Fin 8) : (s.loaded straps).lnu[l] = { Line.default with faultInput := (s.lnu[l]).faultInput } := by
    rw [State.loaded_lnu, hshow]
    simp [ShowImage.defaults, SavedLine.loaded, Line.saved, Line.default, ArmedMode.mode]
  have harmed (l : Fin 8) : ((s.loaded straps).lnu[l]).armed = .off := by rw [hloaded l]; rfl
  have hfixtures (i : Fin 128) : (s.startUp straps).fixture? i = none := by
    rw [State.startUp_fixture?, hshow]
    simp [ShowImage.defaults]
  have hnone (i : Fin 128) : (s.loaded straps).fixture? i = none := by
    rw [← hfixtures i, State.fixture?, State.fixture?, State.startUp_eq, State.rebuildImages_fxe, State.rearmLines_fxe]
  have hlines (l : Fin 8) : (s.startUp straps).lnu[l] = { Line.default with faultInput := (s.lnu[l]).faultInput } := by
    rw [State.startUp_eq, State.rearmed_rebuilt_lnu_of_off hnone (harmed l), hloaded l]
    rfl
  have hrqd : (s.startUp straps).rqd =
      { normal := [], urgent := [], inProgress := none, lost := 0, stats := Stats.zero,
        notices := [{ time := 0, notice := .imageInvalid }] } := by
    rw [State.startUp_eq, State.rebuildImages_rqd, State.rearmLines_rqd_of_off harmed, s.loaded_rqd straps hflash]
  have hfxe := s.startUp_fxe straps
  have hpbu := s.startUp_pbu straps
  rw [hshow] at hfxe hpbu
  refine ⟨s.startUp straps, rfl, rfl, s.startUp_sli straps, hrqd, ?profiles, hfixtures, ?zones, ?pass,
    by rw [State.startUp_scu, hshow]; rfl, ?cues, ?pool, ?build, ?timeline, ?cursor, ?tracks, ?sticks, hlines,
    by rw [State.startUp_ims, hflash]; rfl⟩
  case profiles => simp [hfxe, ShowImage.fxe, ShowImage.defaults]
  case zones => simp [hfxe, ShowImage.fxe, ShowImage.defaults]
  case pass => rw [hfxe]; rfl
  case cues => simp [State.cueOf, hpbu, ShowImage.pbu, ShowImage.defaults, SavedCue.loaded]
  case pool => simp [hpbu, ShowImage.pbu, ShowImage.defaults, SavedCue.loaded, partsHeld, Cue.blank]
  case build => rw [hpbu]; rfl
  case timeline => rw [hpbu]; rfl
  case cursor => rw [hpbu]; rfl
  case tracks => simp [State.startUp_tku]
  case sticks => simp [State.startUp_sku, hshow, ShowImage.defaults, SavedStick.loaded, Stick.saved, Stick.default]

/-! ### The tables of a loaded show -/

theorem SavedLine.loaded_saved (l : SavedLine) (faultInput : Bool) : (l.loaded faultInput).saved = l := rfl

theorem SavedStick.loaded_saved (k : SavedStick) : k.loaded.saved = k := rfl

theorem SavedCue.loaded_saved (c : Option SavedCue) : (SavedCue.loaded c).saved = c := by cases c <;> rfl

theorem SavedFixture.loaded_saved (f : SavedFixture) (profiles : Vector (Option Profile) 16) :
    (f.loaded profiles).saved = f := rfl

theorem Line.rearmed_saved (x : Line) : x.rearmed.saved = x.saved := by
  rw [Line.rearmed_eq]
  rfl

theorem Line.withImages_saved (x : Line) (next latest : Vector Byte 512) :
    ({ x with next := next, latest := latest } : Line).saved = x.saved := rfl

/-- A state whose blocks are those after a load of `w` holds the tables of `w`. -/
theorem State.tables_of_blocks {t : State} {w : ShowImage} (hfxe : t.fxe = w.fxe) (hscu : t.scu = w.scu) (hpbu : t.pbu = w.pbu)
    (hsticks : t.sku.sticks = w.sticks.map SavedStick.loaded) (hlines : ∀ l : Fin 8, (t.lnu[l]).saved = w.lines[l]) :
    t.tables = w := by
  have lines : t.lnu.map Line.saved = w.lines := Vector.ext fun i hi => (Vector.getElem_map ..).trans (hlines ⟨i, hi⟩)
  have fixtures : (w.fxe.fixtures.map fun f => f.map Fixture.saved) = w.fixtures := by
    refine Vector.ext fun i hi => ?_
    simp [ShowImage.fxe, Function.comp_def, SavedFixture.loaded_saved]
  have sticks : (w.sticks.map SavedStick.loaded).map Stick.saved = w.sticks := by
    refine Vector.ext fun i hi => ?_
    simp [SavedStick.loaded_saved]
  have cues : w.pbu.cues.map Cue.saved = w.cues := by
    refine Vector.ext fun i hi => ?_
    simp [ShowImage.pbu, SavedCue.loaded_saved]
  rw [State.tables, lines, hfxe, hscu, hpbu, hsticks, fixtures, sticks, cues]
  rfl

/-- The tables of a start-up are the show it loads. -/
theorem State.startUp_tables (s : State) (straps : BitVec 4) : (s.startUp straps).tables = s.startShow := by
  refine State.tables_of_blocks (s.startUp_fxe straps) (s.startUp_scu straps) (s.startUp_pbu straps)
    (congrArg Sku.sticks (s.startUp_sku straps)) fun l => ?_
  rw [s.startUp_lnu straps l, Line.withImages_saved, Line.rearmed_saved, SavedLine.loaded_saved]

theorem ShowImage.scu_nextExpiry (w : ShowImage) : w.scu.nextExpiry = BitVec.ofNat 32 w.scu.period := rfl

theorem ShowImage.pbu_cursor (w : ShowImage) : w.pbu.cursor = cursorAt w.pbu.timeline 0 := rfl

theorem ShowImage.loaded_run (w : ShowImage) (f : SavedFixture) : (f.loaded w.profiles).run =
    resetRuntime f.config ((w.fxe.profiles[f.config.profile]).getD Profile.blank) 0 := rfl

/-- A loaded line after it met its fault input, whatever its images (R158, R161). -/
theorem SavedLine.loaded_rearmed {l : SavedLine} {faultInput : Bool} {x : Line}
    (h : x = { (l.loaded faultInput).rearmed with next := x.next, latest := x.latest }) :
    x.framesSent = 0 ∧ x.mode = if faultInput = true ∧ x.armed ≠ .off then .fault else x.armed.mode := by
  rw [Line.rearmed_eq] at h
  rw [h]
  exact ⟨rfl, rfl⟩

/-- Settles O5: the loaded show stands in the tables, and the lines are re-armed and their images rebuilt. -/
theorem startUpLoadsImage : Obligations.StartUpLoadsImage := by
  intro s straps body hflash
  have hscu := s.startUp_scu straps
  have hpbu := s.startUp_pbu straps
  have rebuilt : (s.startUp straps).imagesRebuilt := s.startUp_eq straps ▸ State.rebuildImages_imagesRebuilt _
  refine ⟨s.startUp straps, rfl, rfl, (s.startUp_tables straps).trans (State.startShow_of_some hflash),
    by rw [State.startUp_ims, hflash]; rfl, ?runtimes, by rw [hscu]; rfl, by rw [hscu]; rfl, by rw [hscu]; rfl,
    by rw [hscu]; rfl, by rw [hscu, ShowImage.scu_nextExpiry], by rw [hpbu, ShowImage.pbu_cursor], fun l => ?line, rebuilt⟩
  case runtimes =>
    intro i f hf
    rw [State.startUp_fixture?] at hf
    obtain ⟨saved, -, rfl⟩ := Option.map_eq_some_iff.mp hf
    rw [State.profileOf, State.startUp_fxe]
    exact ShowImage.loaded_run _ saved
  case line => exact ⟨(rebuilt l 0 (by decide)).1, SavedLine.loaded_rearmed (s.startUp_lnu straps l)⟩

/-! ### CLEAR-SHOW (R194) -/

theorem State.emptyShow_lnu (s : State) (l : Fin 8) : s.emptyShow.lnu[l] = (s.lnu[l]).cleared := by
  simp [State.emptyShow]

/-- Settles O10: the emptied show arms no line and defines no fixture. -/
theorem clearShowEmptiesTheTables : Obligations.ClearShowEmptiesTheTables := by
  intro s q hserving hpayload hsaving
  have hlength : hasLength q 0 = true := hasLength_of_eq hpayload
  have accepted : firstFailing (tableChecks (hasLength q 0) s []) = none := by
    rw [tableChecks_passed hlength hsaving]
    rfl
  have hline (l : Fin 8) : (s.emptyShow.restClock).lnu[l] = (s.lnu[l]).cleared := s.emptyShow_lnu l
  have harmed (l : Fin 8) : ((s.emptyShow.restClock).lnu[l]).armed = .off := by rw [hline l]; rfl
  have hnone (i : Fin 128) : (s.emptyShow.restClock).fixture? i = none := by simp [State.fixture?, State.emptyShow]
  have hlines (l : Fin 8) : s.clearShow.lnu[l] = (s.lnu[l]).cleared := by
    rw [State.clearShow, State.rearmed_rebuilt_lnu_of_off hnone (harmed l), hline l]
    rfl
  have hrqd : s.clearShow.rqd = s.rqd := by
    rw [State.clearShow, State.rebuildImages_rqd, State.rearmLines_rqd_of_off harmed]
    rfl
  have hfxe : s.clearShow.fxe = s.emptyShow.fxe := by simp [State.clearShow]
  have hpbu : s.clearShow.pbu = s.emptyShow.pbu := by simp [State.clearShow]
  refine ⟨s.clearShow, congrArg Host.Outcome.next (State.serve_accepted hserving accepted), ?_, ?_, ?_, ?_, ?_, ?_, ?_, ?_, ?_,
    ?_, ?_, s.clearShow_scu, hlines, hrqd, ?_, ?_, ?_⟩
  all_goals simp [State.fixture?, State.cueOf, State.clearShow, State.emptyShow, Config.poolSize]

end Sys2Proof.Machine

/-! ## The body of a show image -/

namespace Sys2Proof.Machine

/-! ### Fields of a record (R186)

A field at an offset is the field at the front of the rest; what stands before it is dropped field by field. -/

section
variable (p : List Byte) (i n : Nat)

@[simp] theorem u8_succ : u8 p (i + 1) = u8 (p.drop (i + 1)) 0 := (u8_drop p (i + 1) 0).symm

@[simp] theorem u16_succ : u16 p (i + 1) = u16 (p.drop (i + 1)) 0 := (u16_drop p (i + 1) 0).symm

@[simp] theorem u32_succ : u32 p (i + 1) = u32 (p.drop (i + 1)) 0 := (u32_drop p (i + 1) 0).symm

@[simp] theorem i16_succ : i16 p (i + 1) = i16 (p.drop (i + 1)) 0 := (i16_drop p (i + 1) 0).symm

@[simp] theorem i32_succ : i32 p (i + 1) = i32 (p.drop (i + 1)) 0 := (i32_drop p (i + 1) 0).symm

@[simp] theorem groupField_succ : groupField p (i + 1) = groupField (p.drop (i + 1)) 0 :=
  congrArg (BitVec.ofNat 32) (mapField_drop 4 p (i + 1) 0).symm

theorem getD_succ (b : Byte) : p.getD (i + 1) b = (p.drop (i + 1)).getD 0 b := by
  simp [List.getD_eq_getElem?_getD, List.getElem?_drop]

@[simp] theorem drop_be16 : (be16 n ++ p).drop (i + 2) = p.drop i := rfl

@[simp] theorem drop_be32 : (be32 n ++ p).drop (i + 4) = p.drop i := rfl

@[simp] theorem drop_be16i (v : Int) : (be16i v ++ p).drop (i + 2) = p.drop i := rfl

@[simp] theorem drop_be32i (v : Int) : (be32i v ++ p).drop (i + 4) = p.drop i := rfl

@[simp] theorem drop_wordBytes (t : BitVec 32) : (wordBytes t ++ p).drop (i + 4) = p.drop i := rfl

@[simp] theorem drop_groupBytes (g : BitVec 32) : (groupBytes g ++ p).drop (i + 4) = p.drop i := rfl

@[simp] theorem u8_front (b : Byte) : u8 (b :: p) 0 = b.toNat := rfl

theorem getD_front (b c : Byte) : (b :: p).getD 0 c = b := rfl

@[simp] theorem u32_wordBytes (t : BitVec 32) : u32 (wordBytes t ++ p) 0 = t.toNat := by
  rw [wordBytes, u32_be32, Nat.mod_eq_of_lt t.isLt]

@[simp] theorem groupField_groupBytes (g : BitVec 32) : groupField (groupBytes g ++ p) 0 = g := by
  rw [groupField, groupBytes, mapField_mapBytes, Nat.mod_eq_of_lt (show g.toNat < 256 ^ 4 from g.isLt), BitVec.ofNat_toNat,
    BitVec.setWidth_eq]

variable {n}

theorem byteOf_toNat_of_lt (h : n < 256) : (byteOf n).toNat = n := by rw [byteOf_toNat, Nat.mod_eq_of_lt h]

theorem u16_front (h : n < 65536) : u16 (be16 n ++ p) 0 = n := by rw [u16_be16, Nat.mod_eq_of_lt h]

theorem u32_front (h : n < 4294967296) : u32 (be32 n ++ p) 0 = n := by rw [u32_be32, Nat.mod_eq_of_lt h]

variable {v : Int}

theorem i16_front (h : fits16 v) : i16 (be16i v ++ p) 0 = v := i16_be16i v p h.1 h.2

theorem i32_front (h : fits32 v) : i32 (be32i v ++ p) 0 = v := i32_be32i v p h.1 h.2

/-- An amount that is not negative is read back from its signed field without sign. -/
theorem u16_be16i_front (h : 0 ≤ v ∧ v < 65536) : (u16 (be16i v ++ p) 0 : Int) = v := by
  obtain ⟨lo, hi⟩ := h
  rw [be16i, u16_be16]
  omega

end

/-! ### Codes (Table 32) -/

theorem ofNat_byteOf {n : Nat} [NeZero n] (hn : n ≤ 256) (i : Fin n) : Fin.ofNat n (byteOf i.val).toNat = i := by
  rw [byteOf_toNat_of_lt (by omega)]
  exact Fin.ofNat_val_eq_self i

theorem optIndex_optByte {o : Option Nat} (h : offsetFits o) : optIndex (optByte o).toNat = o := by
  cases o with
  | none => rfl
  | some n =>
    have hn := h n rfl
    rw [optByte, byteOf_toNat_of_lt (by omega), optIndex, if_neg (by omega)]

theorem optByte_eq_255_iff {o : Option Nat} (h : offsetFits o) : (optByte o).toNat = 255 ↔ o = none := by
  cases o with
  | none => exact ⟨fun _ => rfl, fun _ => rfl⟩
  | some n =>
    have hn := h n rfl
    rw [optByte, byteOf_toNat_of_lt (by omega)]
    exact ⟨fun e => by omega, nofun⟩

@[simp] theorem gamutCode_read (g : GamutMode) : (if (gamutCode g).toNat = 1 then GamutMode.scale else .clip) = g := by
  cases g <;> rfl

@[simp] theorem curveCode_read (c : Curve) : (if (curveCode c).toNat = 1 then Curve.square else .linear) = c := by
  cases c <;> rfl

@[simp] theorem orientationCode_read (o : Orientation) :
    (if (orientationCode o).toNat = 1 then Orientation.stand else .hang) = o := by
  cases o <;> rfl

@[simp] theorem zoneModeCode_read (m : ZoneMode) : (if (zoneModeCode m).toNat = 1 then ZoneMode.blank else .clamp) = m := by
  cases m <;> rfl

@[simp] theorem samplingCode_read (m : SamplingMode) :
    (if (samplingCode m).toNat = 1 then SamplingMode.single else .continuous) = m := by
  cases m <;> rfl

/-! ### Records -/

theorem zoneOf_append {z : Zone} (hx : z.x.fits) (hy : z.y.fits) (hz : z.z.fits) (rest : List Byte) :
    zoneOf (z.bytes ++ rest) = z := by
  obtain ⟨xlo, xhi⟩ := hx
  obtain ⟨ylo, yhi⟩ := hy
  obtain ⟨zlo, zhi⟩ := hz
  simp [zoneOf, Zone.bytes, i32_front, boolByte_toNat_beq, *]

theorem configOf_append {f : SavedFixture} (h : f.fits) (rest : List Byte) : configOf (f.config.bytes ++ rest) = f.config := by
  obtain ⟨start, ⟨mx, my, mz⟩, yaw, ⟨panLo, panHi⟩, ⟨tiltLo, tiltHi⟩, pan, tilt, level, -⟩ := h
  simp [configOf, FixtureConfig.bytes, pointField, pointBytes, i32_front, u16_front, ofNat_byteOf, -Fin.ofNat_eq_cast, *]

/-- A range as it stands in a profile. -/
def Window.bytes (w : Window) : List Byte := be32i w.lo ++ be32i w.hi

/-- A row of the colour matrix, or the white vector, as it stands in a profile. -/
def Rgb.bytes (c : Rgb) : List Byte := be16i c.r ++ be16i c.g ++ be16i c.b

section
variable (w : Window) (c : Rgb) (p : List Byte) (i : Nat)

@[simp] theorem drop_window : (w.bytes ++ p).drop (i + 8) = p.drop i := rfl

@[simp] theorem drop_window_hi : (w.bytes ++ p).drop 4 = be32i w.hi ++ p := rfl

@[simp] theorem drop_rgb : (c.bytes ++ p).drop (i + 6) = p.drop i := rfl

@[simp] theorem drop_rgb_g : (c.bytes ++ p).drop 2 = be16i c.g ++ (be16i c.b ++ p) := rfl

@[simp] theorem drop_rgb_b : (c.bytes ++ p).drop 4 = be16i c.b ++ p := rfl

variable {w c}

theorem i32_window (h : fits32 w.lo) : i32 (w.bytes ++ p) 0 = w.lo := by
  rw [Window.bytes, List.append_assoc, i32_front _ h]

theorem i16_rgb (h : fits16 c.r) : i16 (c.bytes ++ p) 0 = c.r := by
  rw [Rgb.bytes, List.append_assoc, List.append_assoc, i16_front _ h]

theorem u16_rgb (h : 0 ≤ c.r ∧ c.r < 65536) : (u16 (c.bytes ++ p) 0 : Int) = c.r := by
  rw [Rgb.bytes, List.append_assoc, List.append_assoc, u16_be16i_front _ h]

end

/-- The fields of a profile one after another; no white vector is sent as zeros. -/
theorem Profile.bytes_append (p : Profile) (rest : List Byte) : p.bytes ++ rest =
    byteOf p.footprint :: byteOf p.panCoarse :: optByte p.panFine :: byteOf p.tiltCoarse :: optByte p.tiltFine ::
    byteOf p.redCoarse :: optByte p.redFine :: byteOf p.greenCoarse :: optByte p.greenFine :: byteOf p.blueCoarse ::
    optByte p.blueFine :: optByte p.whiteCoarse :: optByte p.whiteFine :: optByte p.speed :: p.speedValue ::
    (p.panRange.bytes ++ (p.tiltRange.bytes ++
    (be32 p.panVmax ++ (be32 p.tiltVmax ++ (be32 p.panAmax ++ (be32 p.tiltAmax ++
    (p.matrixRed.bytes ++ (p.matrixGreen.bytes ++ (p.matrixBlue.bytes ++ ((p.whiteVector.getD ⟨0, 0, 0⟩).bytes ++
    (be16 p.defaultWmix ++ (gamutCode p.gamut :: curveCode p.curve :: (p.defaults ++ rest))))))))))))) := by
  unfold Profile.bytes Window.bytes Rgb.bytes
  cases p.whiteVector with
  | none =>
    simp only [List.append_assoc]
    rfl
  | some w =>
    simp only [List.append_assoc]
    rfl

/-- The white vector stands in a profile exactly with its white emitter (R4). -/
theorem Profile.whiteVector_eq {p : Profile} (h : p.whiteVector.isSome = p.whiteCoarse.isSome) :
    (if p.whiteCoarse = none then none else some (p.whiteVector.getD ⟨0, 0, 0⟩)) = p.whiteVector := by
  cases hw : p.whiteVector <;> cases hc : p.whiteCoarse <;> simp_all

theorem profileOf_append {p : Profile} (h : p.fits) (rest : List Byte) : profileOf (p.bytes ++ rest) = p := by
  obtain ⟨footprint, defaults, offsets, options, ⟨panLo, panHi⟩, ⟨tiltLo, tiltHi⟩, speeds, ⟨rr, rg, rb⟩, ⟨gr, gg, gb⟩,
    ⟨br, bg, bb⟩, emitter, white, wmix⟩ := h
  have hwhite : ∀ v ∈ [(p.whiteVector.getD ⟨0, 0, 0⟩).r, (p.whiteVector.getD ⟨0, 0, 0⟩).g,
      (p.whiteVector.getD ⟨0, 0, 0⟩).b], 0 ≤ v ∧ v < 65536 := by
    cases hw : p.whiteVector with
    | none => decide
    | some w => exact white w hw
  have hwmix : p.defaultWmix < 65536 := by omega
  have hdefaults : (p.defaults ++ rest).take p.footprint = p.defaults := by rw [← defaults, List.take_left]
  have hvector := Profile.whiteVector_eq emitter
  clear defaults white emitter
  simp only [List.forall_mem_cons] at offsets options speeds hwhite
  obtain ⟨panCoarse, tiltCoarse, redCoarse, greenCoarse, blueCoarse, -⟩ := offsets
  obtain ⟨panFine, tiltFine, redFine, greenFine, blueFine, whiteCoarse, whiteFine, speed, -⟩ := options
  obtain ⟨panVmax, tiltVmax, panAmax, tiltAmax, -⟩ := speeds
  obtain ⟨wr, wg, wb, -⟩ := hwhite
  rw [Profile.bytes_append]
  simp [profileOf, i32_front, i32_window, u32_front, i16_front, i16_rgb, u16_front, optIndex_optByte, byteOf_toNat_of_lt,
    optByte_eq_255_iff, u16_rgb, u16_be16i_front, getD_succ, getD_front, -List.getD_eq_getElem?_getD, *]

/-! ### Readers -/

/-- The reader takes `a` off the front of bytes that begin with `bytes`, and leaves the rest. -/
def takes {α : Type} (one : Reader α) (bytes : List Byte) (a : α) : Prop := ∀ rest, one (bytes ++ rest) = (a, rest)

section
variable {α : Type} {one : Reader α} {bytes : α → List Byte}

theorem readFixed_takes {n : Nat} {f : List Byte → α} {item : List Byte} {a : α} (hlength : item.length = n)
    (h : ∀ rest, f (item ++ rest) = a) : takes (readFixed n f) item a := fun rest => by
  rw [readFixed, h, List.drop_left' hlength]

theorem readOpt_takes {o : Option α} (h : ∀ a, o = some a → takes one (bytes a) a) :
    takes (readOpt one) (optItem bytes o) o := fun rest => by
  cases o with
  | none => rfl
  | some a =>
    have hone := h a rfl rest
    simp [readOpt, optItem, hone]

theorem readMany_takes {l : List α} (h : ∀ a ∈ l, takes one (bytes a) a) :
    takes (readMany one l.length) (l.flatMap bytes) l := by
  induction l with
  | nil => exact fun rest => rfl
  | cons a l ih =>
    rw [List.forall_mem_cons] at h
    obtain ⟨ha, hl⟩ := h
    intro rest
    rw [List.flatMap_cons, List.append_assoc, List.length_cons, readMany, ha, ih hl]

/-- The entries of a table of fixed size, one after another. -/
theorem readMany_takes_table {n : Nat} {v : Vector α n} (h : ∀ i : Fin n, takes one (bytes v[i]) v[i]) :
    takes (readMany one n) (v.toList.flatMap bytes) v.toList := by
  have all : ∀ a ∈ v.toList, takes one (bytes a) a := by
    intro a ha
    obtain ⟨i, hi, rfl⟩ := Vector.getElem_of_mem (Vector.mem_toList_iff.mp ha)
    exact h ⟨i, hi⟩
  have hv := readMany_takes all
  rwa [Vector.length_toList] at hv

/-- A table is its list of entries. -/
theorem ofFn_getD_toList {n : Nat} (v : Vector α n) (d : α) : (Vector.ofFn fun i : Fin n => v.toList.getD i.val d) = v := by
  refine Vector.ext fun i hi => ?_
  simp [List.getD_eq_getElem?_getD]

end

/-! ### The items of Table 39 -/

theorem Profile.bytes_length {p : Profile} (h : p.fits) : p.bytes.length = 75 + p.footprint := by
  have whole := congrArg List.length (p.bytes_append [])
  obtain ⟨-, defaults, -⟩ := h
  rw [List.append_nil] at whole
  rw [whole, ← defaults]
  simp [Window.bytes, Rgb.bytes, be16i, be32i, be16_length, be32_length]
  omega

theorem readProfile_takes {p : Profile} (h : p.fits) : takes readProfile p.bytes p := fun rest => by
  have hfootprint : u8 (p.bytes ++ rest) 0 = p.footprint := by
    rw [Profile.bytes_append, u8_front, byteOf_toNat_of_lt h.1]
  rw [readProfile, profileOf_append h, hfootprint, List.drop_left' (Profile.bytes_length h)]

/-- A block of known length is dropped whole. -/
theorem drop_block {block : List Byte} {n : Nat} (h : block.length = n) (p : List Byte) (i : Nat) :
    (block ++ p).drop (i + n) = p.drop i := by
  rw [Nat.add_comm, ← List.drop_drop, List.drop_left' h]

theorem FixtureConfig.bytes_length (c : FixtureConfig) : c.bytes.length = 47 := by
  simp [FixtureConfig.bytes, pointBytes, be32i, be16_length, be32_length]

theorem readFixture_takes {f : SavedFixture} (h : f.fits) : takes readFixture f.bytes f := fun rest => by
  have hconfig (q : List Byte) : configOf (f.config.bytes ++ q) = f.config := configOf_append h q
  have hcount : (byteOf f.statics.length).toNat = f.statics.length := by
    obtain ⟨-, -, -, -, -, -, -, -, hstatics⟩ := h
    exact byteOf_toNat_of_lt hstatics
  simp [readFixture, SavedFixture.bytes, hconfig, hcount, drop_block f.config.bytes_length, Nat.add_comm 52]

theorem readLine_takes {l : SavedLine} (hlength : l.length < 65536) (hinterval : l.minInterval < 65536) :
    takes readLine l.bytes l := fun rest => by
  have hstatics : (Vector.ofFn fun i : Fin 512 => (l.statics.toList ++ rest).getD i.val 0#8) = l.statics := by
    refine Vector.ext fun i hi => ?_
    simp [List.getD_eq_getElem?_getD, List.getElem?_append_left]
  simp [readLine, SavedLine.bytes, u16_front, getD_succ, getD_front, boolByte_toNat_beq, armedOf_armedCode, checkOf_checkCode,
    -List.getD_eq_getElem?_getD, *]

theorem groupOption_optByte (g : Option (Fin 32)) : groupOption (optByte (g.map Fin.val)).toNat = g := by
  have hfits : offsetFits (g.map Fin.val) := by
    intro n hn
    obtain ⟨i, -, rfl⟩ := Option.map_eq_some_iff.mp hn
    omega
  rw [groupOption, optIndex_optByte hfits, Option.map_map]
  cases g with
  | none => rfl
  | some i => exact congrArg some (Fin.ofNat_val_eq_self i)

theorem stickOf_append {k : SavedStick} (h : ∀ v ∈ [k.centreX, k.centreY, k.deadBand, k.gain, k.range], v < 65536)
    (rest : List Byte) : stickOf (k.bytes ++ rest) = k := by
  simp only [List.forall_mem_cons] at h
  obtain ⟨centreX, centreY, deadBand, gain, range, -⟩ := h
  simp [stickOf, SavedStick.bytes, groupOption_optByte, u16_front, *]

theorem partsOf_append (parts : List PartRecord) (rest : List Byte) :
    partsOf parts.length (parts.flatMap PartRecord.bytes ++ rest) = parts := by
  induction parts with
  | nil => rfl
  | cons p parts ih =>
    rw [List.flatMap_cons, List.append_assoc, List.length_cons, partsOf, partOf_bytes, List.drop_left' p.bytes_length, ih]

theorem readCue_takes {c : SavedCue} (hdeclared : c.declared < 256) (hparts : c.parts.length < 256) :
    takes readCue c.bytes c := fun rest => by
  have hrest : (c.parts.flatMap PartRecord.bytes ++ rest).drop (34 * c.parts.length) = rest :=
    List.drop_left' (flatMap_bytes_length c.parts)
  simp [readCue, SavedCue.bytes, byteOf_toNat_of_lt hdeclared, byteOf_toNat_of_lt hparts, partsOf_append, Nat.add_comm 2, hrest]

theorem entryOf_append {e : TimelineEntry} (h : e.time < 4294967296) (rest : List Byte) : entryOf (e.bytes ++ rest) = e := by
  simp [entryOf, TimelineEntry.bytes, u32_front, ofNat_byteOf, -Fin.ofNat_eq_cast, h]

/-! ### The whole body (R193) -/

/-- Settles O6: each table of the body is taken off by its reader, which leaves the tables after it. -/
theorem imageBodyRoundTrip : Obligations.ImageBodyRoundTrip := by
  intro w ⟨profilesFit, fixturesFit, zonesFit, linesFit, period, markInterval, jump, sticksFit, cuesFit, count, entriesFit⟩
  have profiles := readMany_takes_table (v := w.profiles) fun i =>
    readOpt_takes fun p hp => readProfile_takes (profilesFit i p hp)
  have fixtures := readMany_takes_table (v := w.fixtures) fun i =>
    readOpt_takes fun f hf => readFixture_takes (fixturesFit i f hf)
  have zones := readMany_takes_table (v := w.zones) (bytes := Zone.bytes) (one := readFixed 30 zoneOf) fun i => by
    obtain ⟨hx, hy, hz⟩ := zonesFit i
    exact readFixed_takes rfl (zoneOf_append hx hy hz)
  have lines := readMany_takes_table (v := w.lines) fun i => readLine_takes (linesFit i).1 (linesFit i).2
  have sticks := readMany_takes_table (v := w.sticks) (bytes := SavedStick.bytes) (one := readFixed 12 stickOf) fun i =>
    readFixed_takes rfl (stickOf_append (sticksFit i))
  have cues := readMany_takes_table (v := w.cues) fun i =>
    readOpt_takes fun c hc => readCue_takes (cuesFit i c hc).1 (cuesFit i c hc).2
  have timeline := readMany_takes (l := w.timeline) (bytes := TimelineEntry.bytes) (one := readFixed 5 entryOf) fun e he =>
    readFixed_takes rfl (entryOf_append (entriesFit e he))
  unfold showOf ShowImage.body
  simp only [List.append_assoc]
  rw [profiles, fixtures, zones, lines]
  simp only [List.cons_append, List.nil_append, List.drop_succ_cons, drop_be16, List.drop_zero]
  rw [sticks, cues]
  have ended := timeline []
  rw [List.append_nil] at ended
  simp [ofFn_getD_toList, u16_front, byteOf_toNat_of_lt, ended, period, markInterval, jump, count,
    -List.getD_eq_getElem?_getD]

/-! ### A saved show and the next power-on (R192, R193) -/

/-- An image is valid when its body is not empty and fits the image area. -/
theorem validBody_imageOf {body : List Byte} (hpos : 1 ≤ body.length) (hle : body.length ≤ 262144) :
    validBody (imageOf body) = some body := by
  have parted : imageOf body = wordBytes Config.imageMagic ++ (1 :: (be32 body.length ++ (body ++ wordBytes (crc32 body)))) := by
    simp [imageOf]
  have hlength : u32 (imageOf body) 5 = body.length := by
    rw [parted]
    simp [u32_front, show body.length < 4294967296 by omega]
  have hbehind : (imageOf body).drop 9 = body ++ wordBytes (crc32 body) := by
    rw [parted]
    simp
  have hbody : ((imageOf body).drop 9).take body.length = body := by rw [hbehind, List.take_left]
  have hmagic : u32 (imageOf body) 0 = Config.imageMagic.toNat := by rw [parted, u32_wordBytes]
  have hformat : u8 (imageOf body) 4 = 1 := rfl
  have hsize : (imageOf body).length = body.length + 13 := by
    rw [parted]
    simp [wordBytes, be32_length]
    omega
  have hcheck : u32 (imageOf body) (9 + body.length) = (crc32 body).toNat := by
    have hend : (body ++ wordBytes (crc32 body)).drop body.length = wordBytes (crc32 body) ++ [] := by simp
    rw [← u32_drop, hbehind, ← Nat.add_zero body.length, ← u32_drop, hend, u32_wordBytes]
  simp only [validBody, hlength, hbody]
  exact if_pos ⟨hmagic, hformat, hpos, hle, by omega, hcheck⟩

theorem ShowImage.body_pos (w : ShowImage) : 1 ≤ w.body.length := by
  simp [ShowImage.body]
  omega

/-- Settles O7: the completed save leaves a valid image of the tables in the flash, and its body reads back as the tables. -/
theorem savedShowSurvivesPowerOn : Obligations.SavedShowSurvivesPowerOn := by
  intro s q straps hserving hpayload hsaving hfits hroom
  have hsaved : (s.startSave.1.answered 0x04 q (.ok [])).ims.saving = some (imageOf s.tables.body) := by
    simp [State.answered, State.startSave]
  have hflash : validBody ((s.startSave.1.answered 0x04 q (.ok [])).endSave (imageOf s.tables.body) true).ims.flash =
      some s.tables.body := validBody_imageOf s.tables.body_pos hroom
  refine ⟨_, _, _, execSave_accepted hserving hpayload hsaving, execSaveCompletion_of_saving hsaved true, rfl, ?_, ?_⟩
  · rw [State.startUp_tables, State.startShow_of_some hflash, imageBodyRoundTrip _ hfits]
  · rw [State.startUp_ims, hflash]
    rfl

end Sys2Proof.Machine

/-! ## RESTART (R181, R194) -/

namespace Sys2Proof.Machine

section
variable (s : State)

/-! ### The service -/

/-- The state from which a RESTART takes effect: its own reply is built first (R181, R194). -/
def State.restartReplied (q : Request) : State :=
  if q.broadcast then s.dropRequest
  else s.dropRequest.pushReply (replyTo { kind := 0x05, request := q } (.ok []))

theorem State.restartReplied_eq (q : Request) : s.restartReplied q = { s with
    sli := { s.sli with
      replies := s.sli.replies ++ if q.broadcast then [] else [{ kind := 0x05, tag := q.tag, payload := [0] }]
      sendingSince := (s.restartReplied q).sli.sendingSince }
    rqd := { s.rqd with inProgress := none } } := by
  unfold State.restartReplied
  cases q.broadcast with
  | true => simp [State.dropRequest]
  | false => rfl

variable {s} in
theorem execRestart_accepted {q : Request} (hserving : s.serving 0x05 q) (hpayload : q.payload = [])
    (hsaving : s.ims.saving = none) : exec (.restart q) s = .next (s.restartReplied q).restart := by
  have hlength : hasLength q 0 = true := hasLength_of_eq hpayload
  have accepted : firstFailing (tableChecks (hasLength q 0) s []) = none := by
    rw [tableChecks_passed hlength hsaving]
    rfl
  refine congrArg Host.Outcome.next ?_
  unfold State.serveRestart
  dsimp only
  rw [State.present_of_inProgress hserving, if_pos (show s.rqd.inProgress = _ from hserving), accepted]
  rfl

/-! ### Block by block -/

/-- The state of a RESTART before the lines meet their fault inputs. -/
def State.rested : State :=
  let s1 := s.emptyLanes.emptyNotices.abortBuild.resetRuntimes.restUnits.restClock.setMarkReceiver .hunting
  s1.setCursor (cursorAt s1.pbu.timeline 0)

theorem State.restart_eq : s.restart = s.rested.rearmLines.rebuildImages := rfl

variable {s} in
theorem State.abortBuild_pbu_congr {t : State} (h : t.pbu = s.pbu) : t.abortBuild.pbu = s.abortBuild.pbu := by
  unfold State.abortBuild
  rw [h]
  cases s.pbu.openBuild with
  | none => exact h
  | some b => simp [State.cueOf, h]

theorem State.abortBuild_pbu : s.abortBuild.pbu = { s.pbu with
    cues := s.abortBuild.pbu.cues
    poolFree := s.pbu.poolFree + ((s.pbu.openBuild.map fun b => (s.cueOf b.cue).parts.length).getD 0)
    openBuild := none } := by
  unfold State.abortBuild
  cases h : s.pbu.openBuild with
  | none => cases hp : s.pbu; simp_all
  | some b => rfl

/-- The build is aborted, and the cursor stands behind the entries at time 0 (R99, R136). -/
theorem State.restart_pbu : s.restart.pbu = { s.abortBuild.pbu with cursor := cursorAt s.pbu.timeline 0 } := by
  have aborted : s.emptyLanes.emptyNotices.abortBuild.pbu = s.abortBuild.pbu := State.abortBuild_pbu_congr (by simp)
  simp [State.restart, aborted]

theorem State.restart_cueOf (c : Fin 96) :
    s.restart.cueOf c = if s.pbu.openBuild.any (fun b => b.cue == c) then Cue.blank else s.cueOf c := by
  rw [← State.abortBuild_cueOf, State.cueOf, State.restart_pbu]
  rfl

variable {s} in
/-- Where the open-build record names the OPEN cue, RESTART empties the OPEN cue and keeps the others (R99). -/
theorem State.restart_cueOf_of_buildOk (h : s.buildOk) (c : Fin 96) :
    s.restart.cueOf c = if (s.cueOf c).state = .opened then Cue.blank else s.cueOf c := by
  obtain ⟨hok, hrecord⟩ := h
  have named : s.pbu.openBuild.any (fun b => b.cue == c) = true ↔ (s.cueOf c).state = .opened := by
    refine ⟨fun hany => ?_, fun hopen => by simp [State.openBuild_of_opened hok hopen]⟩
    obtain ⟨b, hb, hc⟩ := (Option.any_eq_true ..).mp hany
    exact beq_iff_eq.mp hc ▸ hrecord b hb
  rw [State.restart_cueOf, if_congr named rfl rfl]

/-- The runtime records are reset, and nothing else of the FXE changes (R24). -/
theorem State.restart_fxe : s.restart.fxe = { s.fxe with fixtures := s.restart.fxe.fixtures } := by
  simp [State.restart]

variable {s} in
theorem State.resetFixture_congr {t : State} (hfxe : t.fxe = s.fxe) (hscu : t.scu = s.scu) : t.resetFixture = s.resetFixture := by
  funext f
  simp only [State.resetFixture, State.profileOf, State.localClock, hfxe, hscu]

theorem State.restart_fixture? (i : Fin 128) : s.restart.fixture? i =
    (s.fixture? i).map fun f => { f with run := resetRuntime f.config (s.profileOf f.config) s.localClock } := by
  have reset : s.emptyLanes.emptyNotices.abortBuild.resetFixture = s.resetFixture :=
    State.resetFixture_congr (by simp) (by simp)
  have fixtures : s.restart.fxe.fixtures = s.fxe.fixtures.map fun f => f.map s.resetFixture := by simp [State.restart, reset]
  rw [State.fixture?, fixtures]
  exact Vector.getElem_map ..

theorem State.restart_sku : s.restart.sku = { s.sku with sticks := s.sku.sticks.map Stick.rest } := by simp [State.restart]

theorem State.restart_ims : s.restart.ims = s.ims := by simp [State.restart]

theorem State.restart_pending : s.restart.pending = s.pending := by simp [State.restart]

/-! ### Lines and notices (R158, R165, R182, R184) -/

theorem State.rested_lnu (l : Fin 8) : s.rested.lnu[l] = (s.lnu[l]).clearCounters := by simp [State.rested]

/-- Each line takes its armed mode or enters FAULT, with its counters set to 0 before. -/
theorem State.restart_lnu (l : Fin 8) : s.restart.lnu[l] = { (s.lnu[l]).clearCounters.rearmed with
    next := (s.restart.lnu[l]).next, latest := (s.restart.lnu[l]).latest } := by
  rw [State.restart_eq, ← State.rested_lnu, ← State.rearmLines_lnu]
  exact State.rebuildImages_lnu _ l

theorem State.restart_imagesRebuilt : s.restart.imagesRebuilt := State.rebuildImages_imagesRebuilt _

/-- The lanes are empty, the counters 0, and the notices are the line faults of this moment. -/
theorem State.restart_rqd (hidle : s.rqd.inProgress = none) : s.restart.rqd =
    { normal := [], urgent := [], inProgress := none, lost := 0, stats := Stats.zero,
      notices := faultNotices s.localClock ((List.finRange 8).filter fun l => (s.lnu[l]).meetsFault) } := by
  have faults : ((List.finRange 8).filter fun l => (s.rested.lnu[l]).meetsFault) =
      (List.finRange 8).filter fun l => (s.lnu[l]).meetsFault := by
    refine List.filter_congr fun l _ => ?_
    rw [State.rested_lnu]
    rfl
  have clock : s.rested.localClock = s.localClock := by simp [State.localClock, State.rested]
  obtain ⟨-, hprogress⟩ := State.turnAway_foldl (s.rqd.waitingRequests s.scu.timeUs) s
  have emptied : s.rested.rqd =
      { normal := [], urgent := [], inProgress := none, notices := [], lost := 0, stats := Stats.zero } := by
    simp [State.rested, State.emptyLanes, hprogress, hidle]
  have room : (faultNotices s.localClock ((List.finRange 8).filter fun l => (s.lnu[l]).meetsFault)).length ≤ 32 := by
    refine (List.length_map ..).trans_le ((List.length_filter_le ..).trans ?_)
    simp
  rw [State.restart_eq, State.rebuildImages_rqd, State.rearmLines_rqd, faults, clock, emptied,
    Rqd.foldl_raise_of_room (by simpa using room)]
  rfl

/-! ### The requests that wait (R181) -/

/-- The BUSY replies to the unicasts of a list of requests. -/
def busyReplies (l : List LinkRequest) : List Reply :=
  (l.filter fun r => !r.request.broadcast).map fun r => replyTo r (.refuse .busy)

theorem State.foldl_turnAway_sli (l : List LinkRequest) : (l.foldl State.turnAway s).sli = { s.sli with
    replies := s.sli.replies ++ busyReplies l, sendingSince := (l.foldl State.turnAway s).sli.sendingSince } := by
  induction l generalizing s with
  | nil => simp [busyReplies]
  | cons r l ih =>
    rw [List.foldl_cons, ih]
    unfold State.turnAway
    cases hr : r.request.broadcast <;> simp [busyReplies, hr]

/-- Each unicast that waits is answered BUSY, in an order of the lanes that the spec leaves open (log entry 26). -/
theorem State.restart_sli : ∃ busy : List Reply, busy.Perm (busyReplies (s.rqd.normal ++ s.rqd.urgent)) ∧
    s.restart.sli =
      { s.sli with replies := s.sli.replies ++ busy, sendingSince := s.restart.sli.sendingSince } := by
  refine ⟨busyReplies (s.rqd.waitingRequests s.scu.timeUs), ((mergeLanes_perm ..).filter _).map _, ?_⟩
  have emptied : s.restart.sli = ((s.rqd.waitingRequests s.scu.timeUs).foldl State.turnAway s).sli := by
    simp [State.restart, State.emptyLanes]
  rw [emptied]
  exact s.foldl_turnAway_sli _

end

/-- What O9 says of an accepted RESTART, where the open-build record names the OPEN cue (R99, R181, R194). -/
theorem execRestart_resets {s : State} {q : Request} (hserving : s.serving 0x05 q) (hpayload : q.payload = [])
    (hsaving : s.ims.saving = none) (hbuild : s.buildOk) :
    ∃ (t : State) (busy : List Reply), exec (.restart q) s = .next t ∧
      busy.Perm (busyReplies (s.rqd.normal ++ s.rqd.urgent)) ∧
      t.sli = { s.sli with
        replies := s.sli.replies ++ (if q.broadcast then [] else [{ kind := 0x05, tag := q.tag, payload := [0] }]) ++ busy
        sendingSince := t.sli.sendingSince } ∧
      t.rqd = { normal := [], urgent := [], inProgress := none, lost := 0, stats := Stats.zero,
                notices := faultNotices s.localClock ((List.finRange 8).filter fun l => (s.lnu[l]).meetsFault) } ∧
      (∀ l : Fin 8, t.lnu[l] = { (s.lnu[l]).clearCounters.rearmed with next := (t.lnu[l]).next, latest := (t.lnu[l]).latest }) ∧
      t.imagesRebuilt ∧ t.fxe = { s.fxe with fixtures := t.fxe.fixtures } ∧
      (∀ i : Fin 128, t.fixture? i = (s.fixture? i).map fun f =>
        { f with run := resetRuntime f.config (s.profileOf f.config) s.localClock }) ∧
      (∀ c : Fin 96, t.cueOf c = if (s.cueOf c).state = .opened then Cue.blank else s.cueOf c) ∧
      t.pbu = { s.pbu with
        cues := t.pbu.cues
        openBuild := none
        cursor := cursorAt s.pbu.timeline 0
        poolFree := s.pbu.poolFree + ((s.pbu.openBuild.map fun b => (s.cueOf b.cue).parts.length).getD 0) } ∧
      t.tku = Vector.replicate 4 Track.unbound ∧ t.sku = { s.sku with sticks := s.sku.sticks.map Stick.rest } ∧
      t.scu = { s.scu with showTime := 0, running := false, lock := .search, receiver := .hunting } ∧
      t.ims = s.ims ∧ t.pending = s.pending := by
  have replied := s.restartReplied_eq q
  generalize hu : s.restartReplied q = u at replied
  have hblocks : u.rqd.normal = s.rqd.normal ∧ u.rqd.urgent = s.rqd.urgent ∧ u.rqd.inProgress = none ∧ u.lnu = s.lnu ∧
      u.fxe = s.fxe ∧ u.scu = s.scu ∧ u.pbu = s.pbu ∧ u.sku = s.sku ∧ u.ims = s.ims ∧ u.pending = s.pending := by
    rw [replied]
    exact ⟨rfl, rfl, rfl, rfl, rfl, rfl, rfl, rfl, rfl, rfl⟩
  obtain ⟨hnormal, hurgent, hidle, hlnu, hfxe, hscu, hpbu, hsku, hims, hpending⟩ := hblocks
  obtain ⟨busy, hbusy, hsli⟩ := u.restart_sli
  have hbuild : u.buildOk := State.buildOk_of_pool (State.pool_of_pbu hpbu) hbuild
  have hcue (c : Fin 96) : s.cueOf c = u.cueOf c := by rw [State.cueOf, State.cueOf, hpbu]
  have hclock : s.localClock = u.localClock := by rw [State.localClock, State.localClock, hscu]
  refine ⟨u.restart, busy, hu ▸ execRestart_accepted hserving hpayload hsaving, ?busy, ?sli, ?rqd, ?lnu,
    u.restart_imagesRebuilt, ?fxe, ?fixtures, ?cues, ?pbu, u.restart_tku, ?sku, ?scu, ?ims, ?pending⟩
  case busy => rwa [← hnormal, ← hurgent]
  case sli => exact hsli.trans (by rw [congrArg State.sli replied])
  case rqd =>
    rw [hclock, ← hlnu]
    exact u.restart_rqd hidle
  case lnu =>
    rw [← hlnu]
    exact u.restart_lnu
  case fxe =>
    rw [← hfxe]
    exact u.restart_fxe
  case fixtures =>
    intro i
    have hprofile (c : FixtureConfig) : s.profileOf c = u.profileOf c := by rw [State.profileOf, State.profileOf, hfxe]
    rw [u.restart_fixture? i, State.fixture?, hfxe]
    simp only [hprofile, hclock]
    rfl
  case cues =>
    intro c
    rw [hcue c]
    exact State.restart_cueOf_of_buildOk hbuild c
  case pbu =>
    simp only [hcue]
    rw [← hpbu, State.restart_pbu, State.abortBuild_pbu]
  case sku =>
    rw [← hsku]
    exact u.restart_sku
  case scu =>
    rw [← hscu]
    exact u.restart_scu
  case ims => exact u.restart_ims.trans hims
  case pending => exact u.restart_pending.trans hpending

/-- RESTART as a broadcast. -/
def restartAll : Request := { broadcast := true, tag := 0, payload := [] }

/-- Cue 5 is being built while a RESTART is in progress. -/
def openRestart : State :=
  { (State.reset.openCue 5 2).1 with
    rqd := { State.reset.rqd with inProgress := some { kind := 0x05, request := restartAll } } }

/-- `openRestart` is as `execRestart_resets` asks, with an OPEN cue. -/
theorem openRestart_met : openRestart.serving 0x05 restartAll ∧ openRestart.ims.saving = none ∧ openRestart.buildOk ∧
    (openRestart.cueOf 5).state = .opened :=
  ⟨rfl, rfl, State.buildOk_of_pool rfl (State.openCue_buildOk reset_buildOk.1 5 2), by decide⟩

/-! ### A record that names a READY cue -/

/-- `staleBuild`, whose open-build record names the READY cue 0, with a RESTART in progress. -/
def staleRestart : State :=
  { staleBuild with rqd := { staleBuild.rqd with inProgress := some { kind := 0x05, request := restartAll } } }

theorem staleRestart_poolOk : staleRestart.poolOk := (State.poolOk_congr rfl).mpr staleBuild_poolOk

/-- Refutes O9: `State.poolOk` lets an open-build record pass that names a READY cue with other counts than its own. A RESTART in
`staleRestart` aborts that build, so that the READY cue is not kept. `execRestart_resets` above is O9 with a record that names
the OPEN cue. -/
theorem not_restartResetsTheRunningShow : ¬ Obligations.RestartResetsTheRunningShow := by
  intro h
  obtain ⟨t, -, ht, -, -, -, -, -, -, -, -, -, kept, -⟩ := h staleRestart restartAll rfl rfl rfl
  have emptied : t.cueOf 0 = Cue.blank := by
    rw [execRestart_accepted (s := staleRestart) (q := restartAll) rfl rfl rfl] at ht
    rw [← Host.Outcome.next.inj ht, State.restart_cueOf]
    rfl
  have ready : t.cueOf 0 = staleRestart.cueOf 0 := kept staleRestart_poolOk 0
  rw [emptied] at ready
  cases congrArg Cue.state ready

end Sys2Proof.Machine
